-- ==== Sys2Proof/Word.lean ====
section
/-! DEFINITION. The word types of the block: every bus access, queue argument, phase and sample is one
32-bit word (20_memory.md R54, 00_scope.md R8). -/

namespace Sys2Proof

/-- A 32-bit word: bus data, phase, increment, sample (00_scope.md R8). -/
abbrev Word := BitVec 32

/-- An 8-bit field or byte lane (20_memory.md R54). -/
abbrev Byte := BitVec 8

/-- A byte offset into the block's 64 KiB register space (20_memory.md R51). -/
abbrev Offset := BitVec 16

end Sys2Proof
end

