-- ==== Sys2Proof/Syntax.lean ====
section
/-! DEFINITION. The block's instructions (00_scope.md R2): one constructor per row of
spec/opcode_table.json, each with the operands that its format carries (30_encoding.md R67, R68). -/

namespace Sys2Proof

/-- The eight commands and the two trigger writes of 00_scope.md R2. Operand fields have exactly the widths
of 30_encoding.md R67. -/
inductive Instr where
  /-- NOP, opcode 0x00, format FN (42_render.md R87). -/
  | nop
  /-- CONFIGURE n, opcode 0x01, format FC (40_table.md R75). -/
  | configure (sampleCount : Word)
  /-- WRSAMPLE i, w, opcode 0x02, format FW (40_table.md R76). -/
  | wrsample (index : Word) (sample : Word)
  /-- ACTIVATE s, note, vel, inc, opcode 0x03, format FA (41_voice.md R80). -/
  | activate (slot : Byte) (note : BitVec 16) (vel : Byte) (inc : Word)
  /-- RELEASE s, opcode 0x04, format FS (41_voice.md R81). -/
  | release (slot : Byte)
  /-- SILENCE s, opcode 0x05, format FS (41_voice.md R82). -/
  | silence (slot : Byte)
  /-- RESET_ALL, opcode 0x06, format FN (42_render.md R88). -/
  | resetAll
  /-- SET_ENV a, r, opcode 0x07, format FE (41_voice.md R83). -/
  | setEnv (attack : BitVec 25) (release : BitVec 25)
  /-- RENDER n, a write to RENDER_CTRL, format TR (42_render.md R89). -/
  | render (frameCount : BitVec 16)
  /-- PROBE p, a write to PROBE_PHASE, format TP (40_table.md R79). -/
  | probe (phase : Word)
  deriving DecidableEq, Repr

end Sys2Proof
end

