-- ==== Sys2Proof/Decode.lean ====
section
/-! DEFINITION. The decoder of 30_encoding.md (R66 to R71) over the words of a register write and over the
bytes a bus carries (20_memory.md R54), and, after it, the encoder from the same tables. Both are total; the
decoder rejects by name. -/

namespace Sys2Proof

/-- The three registers whose write is an instruction (00_scope.md R2, 10_state.md R45). -/
inductive Port where
  /-- CMD_OP, offset 0x0048: a write pushes a command (30_encoding.md R66). -/
  | cmdOp
  /-- RENDER_CTRL, offset 0x0050: a write starts a render block (42_render.md R89). -/
  | renderCtrl
  /-- PROBE_PHASE, offset 0x0060: a write probes the table (40_table.md R79). -/
  | probePhase
  deriving DecidableEq, Repr

/-- Why a write is no instruction (30_encoding.md R70). -/
inductive WordError where
  /-- OPCODE 0x08 to 0xFF (30_encoding.md R70 (a)). -/
  | illegalOpcode
  /-- A field its format marks "must be 0" is not 0 (30_encoding.md R70 (b), (c)). -/
  | reservedField
  deriving DecidableEq, Repr

/-- Why a byte string is no instruction. -/
inductive DecodeError where
  /-- A command is three words, a trigger one word (30_encoding.md R66, R67); the string is of another length. -/
  | wrongLength
  /-- The words are there and are refused (30_encoding.md R70). -/
  | word (e : WordError)
  deriving DecidableEq, Repr

/-- OP[7:0], the OPCODE field (30_encoding.md R66). -/
def opOpcode (op : Word) : Byte := op.extractLsb' 0 8

/-- OP[15:8], the SLOT field (30_encoding.md R66). -/
def opSlot (op : Word) : Byte := op.extractLsb' 8 8

/-- OP[23:16], the VEL field (30_encoding.md R66). -/
def opVel (op : Word) : Byte := op.extractLsb' 16 8

/-- OP[31:24], reserved in every command (30_encoding.md R66). -/
def opReserved (op : Word) : Byte := op.extractLsb' 24 8

/-- Accepts the instruction when the named fields are all 0, else RESERVED_FIELD (30_encoding.md R70 (b)). -/
def requireZero (fieldsAreZero : Bool) (i : Instr) : Except WordError Instr :=
  if fieldsAreZero then .ok i else .error .reservedField

/-- Decodes the three words of a CMD_OP write, in the order of the first two checks of 60_exceptions.md R105:
the opcode first, then the reserved fields of the command's format (30_encoding.md R67). -/
def decodeCommand (op a0 a1 : Word) : Except WordError Instr :=
  let noSlot := opSlot op == 0
  let noVel := opVel op == 0
  let noTop := opReserved op == 0
  match (opOpcode op).toNat with
  | 0 => requireZero (noTop && noVel && noSlot) .nop
  | 1 => requireZero (noTop && noVel && noSlot) (.configure a0)
  | 2 => requireZero (noTop && noVel && noSlot) (.wrsample a0 a1)
  | 3 =>
    requireZero (noTop && a0.extractLsb' 16 16 == 0)
      (.activate (opSlot op) (a0.extractLsb' 0 16) (opVel op) a1)
  | 4 => requireZero (noTop && noVel) (.release (opSlot op))
  | 5 => requireZero (noTop && noVel) (.silence (opSlot op))
  | 6 => requireZero (noTop && noVel && noSlot) .resetAll
  | 7 =>
    requireZero
      (noTop && noVel && noSlot && a0.extractLsb' 25 7 == 0 && a1.extractLsb' 25 7 == 0)
      (.setEnv (a0.extractLsb' 0 25) (a1.extractLsb' 0 25))
  | _ => .error .illegalOpcode

/-- Decodes the data word of a RENDER_CTRL write: [15:0] frameCount, [31:16] must be 0 (30_encoding.md R67). -/
def decodeRender (d : Word) : Except WordError Instr :=
  requireZero (d.extractLsb' 16 16 == 0) (.render (d.extractLsb' 0 16))

/-- The instruction that a write of `op` to a port is, with the argument latches holding `a0` and `a1`.
A trigger does not look at the latches. Every word is a PROBE (30_encoding.md R67, format TP). -/
def decode (port : Port) (op a0 a1 : Word) : Except WordError Instr :=
  match port with
  | .cmdOp => decodeCommand op a0 a1
  | .renderCtrl => decodeRender op
  | .probePhase => .ok (.probe op)

/-- The word whose byte lane k is the k-th byte (20_memory.md R54: little-endian lanes). -/
def wordOfLanes (b0 b1 b2 b3 : Byte) : Word := b3 ++ b2 ++ b1 ++ b0

/-- The four byte lanes of a word, lane 0 first (20_memory.md R54). -/
def lanesOfWord (w : Word) : List Byte :=
  [w.extractLsb' 0 8, w.extractLsb' 8 8, w.extractLsb' 16 8, w.extractLsb' 24 8]

/-- A refused word, as a refused byte string. -/
def ofWords : Except WordError Instr → Except DecodeError Instr
  | .ok i => .ok i
  | .error e => .error (.word e)

/-- The decoder on any bytes: a command is OP, A0, A1, each little-endian; a trigger is its data word. -/
def decodeBytes (port : Port) (bs : List Byte) : Except DecodeError Instr :=
  match port, bs with
  | .cmdOp, [o0, o1, o2, o3, a0, a1, a2, a3, b0, b1, b2, b3] =>
    ofWords (decode .cmdOp (wordOfLanes o0 o1 o2 o3) (wordOfLanes a0 a1 a2 a3) (wordOfLanes b0 b1 b2 b3))
  | .renderCtrl, [o0, o1, o2, o3] => ofWords (decode .renderCtrl (wordOfLanes o0 o1 o2 o3) 0 0)
  | .probePhase, [o0, o1, o2, o3] => ofWords (decode .probePhase (wordOfLanes o0 o1 o2 o3) 0 0)
  | _, _ => .error .wrongLength

/-! The encoder, from the same tables. -/

/-- The register whose write issues the instruction (30_encoding.md R69). -/
def Instr.port : Instr → Port
  | .nop => .cmdOp
  | .configure _ => .cmdOp
  | .wrsample _ _ => .cmdOp
  | .activate _ _ _ _ => .cmdOp
  | .release _ => .cmdOp
  | .silence _ => .cmdOp
  | .resetAll => .cmdOp
  | .setEnv _ _ => .cmdOp
  | .render _ => .renderCtrl
  | .probe _ => .probePhase

/-- OPCODE | SLOT << 8 | VEL << 16 (30_encoding.md R73), the reserved byte 0. -/
def packOp (opcode slot vel : Byte) : Word := (0 : Byte) ++ vel ++ slot ++ opcode

/-- The words of an instruction: OP (or the trigger's data), A0 and A1. An argument word that the format
marks ignored is 0 (30_encoding.md R67; the choice of 0 is the model's, log 9). -/
def encode : Instr → Word × Word × Word
  | .nop => (packOp 0x00 0 0, 0, 0)
  | .configure n => (packOp 0x01 0 0, n, 0)
  | .wrsample i w => (packOp 0x02 0 0, i, w)
  | .activate s note vel inc => (packOp 0x03 s vel, note.zeroExtend 32, inc)
  | .release s => (packOp 0x04 s 0, 0, 0)
  | .silence s => (packOp 0x05 s 0, 0, 0)
  | .resetAll => (packOp 0x06 0 0, 0, 0)
  | .setEnv a r => (packOp 0x07 0 0, a.zeroExtend 32, r.zeroExtend 32)
  | .render n => (n.zeroExtend 32, 0, 0)
  | .probe p => (p, 0, 0)

/-- The bytes of an instruction as `decodeBytes` takes them. -/
def encodeBytes (i : Instr) : List Byte :=
  let ws := encode i
  match i.port with
  | .cmdOp => lanesOfWord ws.1 ++ lanesOfWord ws.2.1 ++ lanesOfWord ws.2.2
  | .renderCtrl => lanesOfWord ws.1
  | .probePhase => lanesOfWord ws.1

/-! The opcode table's view. Its 32 bits are the data word of a write and do not say which register is
written, so one word can match several rows (the word 0 is NOP, RENDER 0 and PROBE 0). -/

/-- The data word of a table instruction, and the argument words above it: bits [31:0], [63:32], [95:64]. -/
def tableOp (w : Nat) : Word := BitVec.ofNat 32 w

/-- The word the table leaves for A0. -/
def tableA0 (w : Nat) : Word := BitVec.ofNat 32 (w >>> 32)

/-- The word the table leaves for A1. -/
def tableA1 (w : Nat) : Word := BitVec.ofNat 32 (w >>> 64)

/-- Which register a table word is taken to be written to: CMD_OP where that write is a command, else
RENDER_CTRL where that is a RENDER, else PROBE_PHASE (DESIGN CHOICE, log 8). -/
def tablePort (w : Nat) : Port :=
  match decodeCommand (tableOp w) (tableA0 w) (tableA1 w), decodeRender (tableOp w) with
  | .ok _, _ => .cmdOp
  | .error _, .ok _ => .renderCtrl
  | .error _, .error _ => .probePhase

/-- The bytes of a table word as the bus carries them to the port. -/
def tableBytes (w : Nat) : List Byte :=
  match tablePort w with
  | .cmdOp => lanesOfWord (tableOp w) ++ lanesOfWord (tableA0 w) ++ lanesOfWord (tableA1 w)
  | .renderCtrl => lanesOfWord (tableOp w)
  | .probePhase => lanesOfWord (tableOp w)

/-- The instruction the decoder reads from an instruction whose low `nbits` bits are `w`, the bits above 0. -/
def decodeTableWord (nbits w : Nat) : Option Instr :=
  match decodeBytes (tablePort (w % 2 ^ nbits)) (tableBytes (w % 2 ^ nbits)) with
  | .ok i => some i
  | .error _ => none

end Sys2Proof
end

