-- ==== Sys2Proof/Config.lean ====
section
/-! DEFINITION. What an implementation fixes (00_scope.md R7, R8) and the one free value the spec leaves
(10_state.md R29). -/

namespace Sys2Proof

/-- The implementation parameters of 00_scope.md R7. The model holds them as data that no step changes,
so that a claim over all states covers every implementation (log 1). -/
structure Params where
  /-- NUM_VOICES, written P: the number of voice slots. -/
  numVoices : Nat
  /-- TABLE_MAX: the largest table size CONFIGURE accepts. -/
  tableMax : Nat
  /-- CMDQ_DEPTH: the command queue's capacity. -/
  cmdqDepth : Nat
  /-- OUTBUF_FRAMES: the output buffer's length in frames. -/
  outbufFrames : Nat
  deriving DecidableEq, Repr

namespace Params

/-- The defaults of 00_scope.md R7, which State.reset uses. -/
def default : Params :=
  { numVoices := 16, tableMax := 4096, cmdqDepth := 64, outbufFrames := 4096 }

/-- The legal ranges of 00_scope.md R7. -/
abbrev Legal (p : Params) : Prop :=
  (1 ≤ p.numVoices ∧ p.numVoices ≤ 256) ∧ (1 ≤ p.tableMax ∧ p.tableMax ≤ 2 ^ 24) ∧
    (1 ≤ p.cmdqDepth ∧ p.cmdqDepth ≤ 65535) ∧ (1 ≤ p.outbufFrames ∧ p.outbufFrames ≤ 4096)

end Params

namespace Config

/-- ENV_ONE = 2^24, the full envelope level (00_scope.md R8, R13). -/
def envOne : Nat := 2 ^ 24

/-- The free value of 10_state.md R29: what output buffer entry `k` reads as when no frame has written it
since reset number `epoch`. "A model treats a read of an entry no frame has written since reset as any
value" (DESIGN CHOICE in its form, log 4). It depends on the entry and the reset only, because every read
is idempotent (20_memory.md R57). -/
opaque freeOutbuf (epoch k : Nat) : Word

end Config

end Sys2Proof
end

