-- ==== Sys2Proof/Machine/State.lean ====
section
/-! DEFINITION. The state record of 10_state.md R17, plain data, and the machine right after reset (R50). -/

namespace Sys2Proof.Machine

/-- The envelope stage (00_scope.md R14). -/
inductive Stage where
  | idle
  | attack
  | sustain
  | release
  deriving DecidableEq, Repr

/-- One voice slot (10_state.md R20). -/
structure Voice where
  /-- `voice[v].stage`, 2 bits. -/
  stage : Stage
  /-- `voice[v].note`, 16 bits; stored and read back, no effect on sound. -/
  note : BitVec 16
  /-- `voice[v].vel`, 8 bits; gain vel/255. -/
  vel : Byte
  /-- `voice[v].phase`, 32 bits; cycle position phase/2^32. -/
  phase : Word
  /-- `voice[v].inc`, 32 bits; inc/2^32 cycles per frame. -/
  inc : Word
  /-- `voice[v].env`, 25 bits; level env/2^24. -/
  env : BitVec 25
  deriving DecidableEq, Repr

/-- Reset value of every field of every slot: 0, stage Idle (10_state.md R20). -/
def Voice.reset : Voice := { stage := .idle, note := 0, vel := 0, phase := 0, inc := 0, env := 0 }

/-- One command queue entry: the validated command as its push took it (10_state.md R25). -/
structure QEntry where
  opcode : Byte
  slot : Byte
  vel : Byte
  arg0 : Word
  arg1 : Word
  deriving DecidableEq, Repr

/-- The result codes of 60_exceptions.md R104. Codes 12 to 255 are never produced. -/
inductive Code where
  | ok
  | invalidSize
  | indexOutOfRange
  | uninitializedTable
  | invalidSlot
  | invalidIncrement
  | invalidEnvStep
  | queueFull
  | illegalOpcode
  | reservedField
  | engineBusy
  | invalidFrameCount
  deriving DecidableEq, Repr

/-- Words by index, indices strictly rising. -/
abbrev Cells := List (Nat × Word)

/-- The two word stores of 20_memory.md R51: the table storage and the output buffer. -/
structure Memory where
  /-- The published table's words (10_state.md R22). An unlisted index holds 0x00000000, CONFIGURE's zero
  fill (40_table.md R75). -/
  table : Cells
  /-- The output buffer (10_state.md R29). Listed: the entries a frame has written since reset. -/
  outbuf : Cells
  deriving DecidableEq, Repr

/-- The size of a bus access (20_memory.md R55). Only 32 bits is admitted. -/
inductive AccessSize where
  | bits8
  | bits16
  | bits32
  deriving DecidableEq, Repr

/-- What the next step is, of the kinds of 20_memory.md R60: a bus access arriving at the port, a turn of the
render engine, or reset. -/
inductive Input where
  /-- A bus read of an offset. -/
  | read (off : Offset) (size : AccessSize)
  /-- A bus write of a data word to an offset; bit k of `lanes` enables byte lane k (20_memory.md R55). -/
  | write (off : Offset) (size : AccessSize) (lanes : BitVec 4) (data : Word)
  /-- The render engine's turn: a frame step when BUSY = 1 (42_render.md R91). -/
  | frame
  /-- The reset input (70_reset_and_hazards.md R120). -/
  | reset
  deriving DecidableEq, Repr

/-- What the bus answered to the most recent access (20_memory.md R57). A bus error is no state: it is a
fault. -/
inductive BusResp where
  /-- No access since the start of the run. -/
  | idle
  /-- OKAY with this data word. -/
  | readOkay (data : Word)
  /-- OKAY to a write, whether what it asked for was accepted or rejected (60_exceptions.md R105). -/
  | writeOkay
  deriving DecidableEq, Repr

/-- Why an access is not admitted (20_memory.md R55, R56). -/
inductive BusErrorCause where
  /-- The offset is no multiple of 4. -/
  | misaligned
  /-- The size is not 32 bits, or a write leaves a byte lane disabled. -/
  | narrow
  /-- The offset is not in the map of 20_memory.md R53. -/
  | unmapped
  deriving DecidableEq, Repr

/-- What stops the machine. -/
inductive Fault where
  /-- Raised by a bus access that 20_memory.md R55 does not admit: it "returns the bus error response", data
  0x00000000, "and no state of the block changes"; "A model treats BusError as a fault of the issuing agent"
  (R56). Safe: the block itself would go on unchanged, the model stops (log 3). No instruction raises it. -/
  | busError (off : Offset) (cause : BusErrorCause)
  deriving DecidableEq, Repr

/-- What has no meaning. -/
inductive Refusal where
  /-- An instruction of the table that has no meaning yet. No arm of exec answers it. Safe. -/
  | notModelled (mnemonic : String)
  deriving DecidableEq, Repr

/-- The state record of 10_state.md R17, and after it the model's own fields. -/
structure State where
  /-- The implementation parameters (00_scope.md R7), which no step changes (log 1). -/
  params : Params
  /-- `voice[0..P-1]` (R20). -/
  voices : List Voice
  /-- TABLE_SIZE of the published table (R22). -/
  tableSize : Word
  /-- The table's words and the output buffer (R22, R29). -/
  mem : Memory
  /-- ATTACK_STEP (R23). -/
  attackStep : BitVec 25
  /-- RELEASE_STEP (R23). -/
  releaseStep : BitVec 25
  /-- CMD_ARG0 (R24). -/
  cmdArg0 : Word
  /-- CMD_ARG1 (R24). -/
  cmdArg1 : Word
  /-- CMD_RESULT[7:0] (R27). -/
  cmdResult : Byte
  /-- The command queue `q`, head first (R25). -/
  queue : List QEntry
  /-- CTL_TABLE_SIZE (R26). -/
  ctlTableSize : Word
  /-- BUSY (R28). -/
  busy : Bool
  /-- DONE (R28). -/
  done : Bool
  /-- FRAME_IDX (R28). -/
  frameIdx : BitVec 13
  /-- LAST_BLOCK_FRAMES (R28). -/
  lastBlockFrames : BitVec 13
  /-- RENDER_RESULT[7:0] (R30). -/
  renderResult : Byte
  /-- PROBE_PHASE (R31). -/
  probePhase : Word
  /-- PROBE_RESULT (R32). -/
  probeResult : Word
  /-- PROBE_STATUS[7:0] (R33). -/
  probeStatus : Byte
  /-- ERROR[10:0]; bit c-1 stands for code c (R34). -/
  error : BitVec 11
  /-- IRQ_STATUS[1:0]: bit 0 DONE_IRQ, bit 1 ERROR_IRQ (R35). -/
  irqStatus : BitVec 2
  /-- IRQ_ENABLE[1:0] (R36). -/
  irqEnable : BitVec 2
  /-- FRAME_COUNT (R37). -/
  frameCount : BitVec 64
  /-- The model's own: the steps still to come, in the order this run takes them (20_memory.md R60, log 2). -/
  inputs : List Input
  /-- The model's own: what the bus answered last (log 6). -/
  resp : BusResp
  /-- The model's own: how many resets have been taken, the free value's argument (log 4). -/
  epoch : Nat
  deriving DecidableEq, Repr

/-- Every state element at its reset value (10_state.md R50), for given implementation parameters. -/
def State.resetWith (p : Params) : State :=
  { params := p
    voices := List.replicate p.numVoices Voice.reset
    tableSize := 0
    mem := { table := [], outbuf := [] }
    attackStep := 0x00040000
    releaseStep := 0x00001000
    cmdArg0 := 0
    cmdArg1 := 0
    cmdResult := 0
    queue := []
    ctlTableSize := 0
    busy := false
    done := false
    frameIdx := 0
    lastBlockFrames := 0
    renderResult := 0
    probePhase := 0
    probeResult := 0
    probeStatus := 0
    error := 0
    irqStatus := 0
    irqEnable := 0
    frameCount := 0
    inputs := []
    resp := .idle
    epoch := 0 }

/-- The machine right after reset (10_state.md R50) with the default parameters of 00_scope.md R7. -/
def State.reset : State := State.resetWith Params.default

end Sys2Proof.Machine
end

