-- ==== Sys2Proof/Machine/Ops.lean ====
section
/-! DEFINITION. The shared operations: the two word stores of 20_memory.md R51 in canonical form, the voice
array's update, the recording of a result code (60_exceptions.md R106, the block's analogue of taking an
exception), its acknowledgement, and the push every command shares (R105). -/

namespace Sys2Proof.Machine

/-! ### Word stores -/

/-- The word listed at an index. -/
def cellRead : Cells → Nat → Option Word
  | [], _ => none
  | (j, w) :: rest, i => if i = j then some w else cellRead rest i

/-- Lists a word at an index, keeping the indices rising. -/
def cellWrite : Cells → Nat → Word → Cells
  | [], i, w => [(i, w)]
  | (j, v) :: rest, i, w =>
    if i < j then (i, w) :: (j, v) :: rest
    else if i = j then (i, w) :: rest
    else (j, v) :: cellWrite rest i w

/-- Unlists an index. -/
def cellErase : Cells → Nat → Cells
  | [], _ => []
  | (j, v) :: rest, i => if i = j then cellErase rest i else (j, v) :: cellErase rest i

/-- Every index of `c` is above `lo`, and the indices rise strictly. -/
def cellsAbove : Nat → Cells → Bool
  | _, [] => true
  | lo, (j, _) :: rest => decide (lo < j) && cellsAbove j rest

/-- The indices rise strictly. -/
def cellsRising : Cells → Bool
  | [] => true
  | (j, _) :: rest => cellsAbove j rest

/-- Table word `i`. An unlisted word is 0x00000000: the zero fill of CONFIGURE (40_table.md R75). -/
def Memory.readTable (m : Memory) (i : Nat) : Word := (cellRead m.table i).getD 0

/-- `table[i] <- w`, exactly one word (40_table.md R76). A zero word is left to the zero fill. -/
def Memory.writeTable (m : Memory) (i : Nat) (w : Word) : Memory :=
  if w = 0 then { m with table := cellErase m.table i } else { m with table := cellWrite m.table i w }

/-- Every table word 0x00000000 (40_table.md R75). -/
def Memory.zeroTable (m : Memory) : Memory := { m with table := [] }

/-- Output buffer entry `k`; `none` when no frame has written it since reset (10_state.md R29). -/
def Memory.readOutbuf (m : Memory) (k : Nat) : Option Word := cellRead m.outbuf k

/-- `outbuf[k] <- w` (42_render.md R91). -/
def Memory.writeOutbuf (m : Memory) (k : Nat) (w : Word) : Memory :=
  { m with outbuf := cellWrite m.outbuf k w }

/-- The canonical form: indices strictly rising in both stores, no zero word listed in the table. -/
def Memory.wf (m : Memory) : Bool :=
  cellsRising m.table && cellsRising m.outbuf && m.table.all (fun c => c.2 != 0)

/-! ### The voice array -/

/-- Replaces voice slot `v` by what `f` makes of it. A slot the array does not have is left out: no checked
command names one (60_exceptions.md R105, log 13). -/
def State.updateVoice (s : State) (v : Nat) (f : Voice → Voice) : State :=
  { s with voices := s.voices.modify v f }

/-! ### Result codes -/

/-- The number of a result code (60_exceptions.md R104). -/
def codeNum : Code → Nat
  | .ok => 0
  | .invalidSize => 1
  | .indexOutOfRange => 2
  | .uninitializedTable => 3
  | .invalidSlot => 4
  | .invalidIncrement => 5
  | .invalidEnvStep => 6
  | .queueFull => 7
  | .illegalOpcode => 8
  | .reservedField => 9
  | .engineBusy => 10
  | .invalidFrameCount => 11

/-- A result code as the 8 bits of a result register (10_state.md R27). -/
def codeByte (c : Code) : Byte := BitVec.ofNat 8 (codeNum c)

/-- The ERROR bit of a code: bit c-1 for codes 1 to 11, none for OK (10_state.md R34). -/
def errorBit (c : Code) : BitVec 11 :=
  if codeNum c = 0 then 0 else BitVec.ofNat 11 (2 ^ (codeNum c - 1))

/-- IRQ_STATUS[0], DONE_IRQ (10_state.md R35). -/
def doneIrq : BitVec 2 := 1

/-- IRQ_STATUS[1], ERROR_IRQ (10_state.md R35). -/
def errorIrq : BitVec 2 := 2

/-- Puts a code into the result register of a port (60_exceptions.md R104, "Port"). -/
def setResult (p : Port) (c : Code) (s : State) : State :=
  match p with
  | .cmdOp => { s with cmdResult := codeByte c }
  | .renderCtrl => { s with renderResult := codeByte c }
  | .probePhase => { s with probeStatus := codeByte c }

/-- `Record(port, c)` for c != 0 (60_exceptions.md R106): the code in the port's result register, its sticky
ERROR bit, and ERROR_IRQ. This is what the block has for exception entry (R110): it saves nothing else, and
no mode, mask or control flow changes. -/
def record (p : Port) (c : Code) (s : State) : State :=
  { setResult p c s with error := s.error ||| errorBit c, irqStatus := s.irqStatus ||| errorIrq }

/-- `Reject(port, c)` (60_exceptions.md R106): Record, and "no other state changes". -/
def reject (p : Port) (c : Code) (s : State) : State := record p c s

/-- A write to ERROR: a 1 clears its bit, a 0 leaves it, bits [31:11] are ignored (10_state.md R34). With
`ackIrq`, what the block has for return from an exception (60_exceptions.md R111). -/
def ackError (d : Word) (s : State) : State := { s with error := s.error &&& ~~~(d.extractLsb' 0 11) }

/-- A write to IRQ_STATUS: a 1 clears its bit, a 0 leaves it, bits [31:2] are ignored (10_state.md R35). -/
def ackIrq (d : Word) (s : State) : State := { s with irqStatus := s.irqStatus &&& ~~~(d.extractLsb' 0 2) }

/-! ### The push -/

/-- Steps 3 to 6 of 60_exceptions.md R105, shared by every command: the command's slot and argument check
(`check`, the first code that fails), then queue space, then `q.push` and CMD_RESULT 0. -/
def pushCommand (check : Option Code) (e : QEntry) (s : State) : State :=
  match check with
  | some c => reject .cmdOp c s
  | none =>
    if s.queue.length = s.params.cmdqDepth then reject .cmdOp .queueFull s
    else setResult .cmdOp .ok { s with queue := s.queue ++ [e] }

/-- The push is accepted: no check fails and the queue has room (60_exceptions.md R105). -/
abbrev pushAccepted (check : Option Code) (s : State) : Prop :=
  check = none ∧ s.queue.length ≠ s.params.cmdqDepth

end Sys2Proof.Machine
end

