-- ==== Sys2Proof/Machine/Flags.lean ====
section
/-! DEFINITION. The status flags of 10_state.md R38: the STATUS word, the activity masks, the word views of
ERROR and IRQ_STATUS, and the interrupt output (60_exceptions.md R109). All are computed from the state. -/

namespace Sys2Proof.Machine

/-- A flag as a bit of a register word. -/
def flagBit (b : Bool) (n : Nat) : Word := if b then BitVec.ofNat 32 (2 ^ n) else 0

/-- STATUS.TABLE_READY (10_state.md R40). -/
def State.tableReady (s : State) : Bool := s.tableSize != 0

/-- STATUS.CMDQ_EMPTY (10_state.md R40). -/
def State.cmdqEmpty (s : State) : Bool := s.queue.length == 0

/-- STATUS.CMDQ_FULL (10_state.md R40). -/
def State.cmdqFull (s : State) : Bool := s.queue.length == s.params.cmdqDepth

/-- STATUS (10_state.md R40): [0] BUSY, [1] DONE, [2] TABLE_READY, [3] CMDQ_EMPTY, [4] CMDQ_FULL, rest 0. -/
def State.statusWord (s : State) : Word :=
  flagBit s.busy 0 ||| flagBit s.done 1 ||| flagBit s.tableReady 2 ||| flagBit s.cmdqEmpty 3 |||
    flagBit s.cmdqFull 4

/-- A voice sounds: its stage is Attack, Sustain or Release (00_scope.md R16, "Non-Idle"). -/
def Voice.active (v : Voice) : Bool := v.stage != .idle

/-- Slot `v` exists and is non-Idle (10_state.md R47). -/
def State.slotActive (s : State) (v : Nat) : Bool :=
  match s.voices[v]? with
  | some x => x.active
  | none => false

/-- ACTIVE_MASKj: bit b is 1 iff slot 32j + b exists and is non-Idle (10_state.md R47). -/
def State.activeMask (s : State) (j : Nat) : Word :=
  (List.range 32).foldl (fun acc b => acc ||| flagBit (s.slotActive (32 * j + b)) b) 0

/-- The interrupt output (60_exceptions.md R109): a level, the OR of the enabled pending sources. -/
def State.irq (s : State) : Bool :=
  (s.irqStatus.getLsbD 0 && s.irqEnable.getLsbD 0) || (s.irqStatus.getLsbD 1 && s.irqEnable.getLsbD 1)

end Sys2Proof.Machine
end

