-- ==== Sys2Proof/Machine/Float.lean ====
section
/-! DEFINITION. binary32 decoding and rounding (00_scope.md R11, R12), on exact integers. Every finite word
is an integer number of units of 2^-149, and every exact value a rule rounds is a quotient of an integer by
a positive one (log 19). -/

namespace Sys2Proof.Machine

/-- w[30:23], the biased exponent (00_scope.md R11). -/
def expField (w : Word) : Nat := (w.extractLsb' 23 8).toNat

/-- w[22:0], the fraction (00_scope.md R11). -/
def fracField (w : Word) : Nat := (w.extractLsb' 0 23).toNat

/-- `isFinite(w)` iff e != 255 (00_scope.md R11). -/
def isFinite (w : Word) : Bool := expField w != 255

/-- |f32val(w)| in units of 2^-149: m when e = 0, (2^23 + m) * 2^(e-1) when 1 <= e <= 254 (00_scope.md R11).
Infinities and NaNs have no value; 0 stands there and "no rule computes with them" (log 11). -/
def f32mag (w : Word) : Nat :=
  if expField w = 0 then fracField w
  else if expField w = 255 then 0
  else (2 ^ 23 + fracField w) * 2 ^ (expField w - 1)

/-- f32val(w) in units of 2^-149, with the sign of w[31] (00_scope.md R11). -/
def f32units (w : Word) : Int := if w.getLsbD 31 then -(f32mag w : Int) else (f32mag w : Int)

/-- The units per 1.0: f32val(w) = f32units w / f32one. -/
def f32one : Nat := 2 ^ 149

/-- `round_half_even(n / d)` (00_scope.md R12): the nearest integer, a tie to the even one. -/
def roundHalfEven (n d : Nat) : Nat :=
  if 2 * (n % d) < d then n / d
  else if d < 2 * (n % d) then n / d + 1
  else if n / d % 2 = 0 then n / d else n / d + 1

/-- 2^k <= a / d. -/
def pow2Le (k : Int) (a d : Nat) : Bool :=
  if 0 ≤ k then decide (d * 2 ^ k.toNat ≤ a) else decide (d ≤ a * 2 ^ (-k).toNat)

/-- floor(log2(a / d)) for positive a and d. -/
def floorLog2 (a d : Nat) : Int :=
  let k : Int := (Nat.log2 a : Int) - (Nat.log2 d : Int)
  if pow2Le k a d then k else k - 1

/-- round_half_even((a / d) / 2^k). -/
def roundScaled (a d : Nat) (k : Int) : Nat :=
  if 0 ≤ k then roundHalfEven a (d * 2 ^ k.toNat) else roundHalfEven (a * 2 ^ (-k).toNat) d

/-- The word with sign bit s, exponent field e and fraction m. -/
def packF32 (s : Bool) (e m : Nat) : Word :=
  BitVec.ofBool s ++ BitVec.ofNat 8 e ++ BitVec.ofNat 23 m

/-- The last four lines of RNE32 (00_scope.md R12), for the rounded integer M and the binade e. -/
def packRounded (s : Bool) (e : Int) (M : Nat) : Word :=
  if M = 0 then 0
  else if 127 < e then packF32 s 0xFF 0
  else if 2 ^ 23 ≤ M then packF32 s (e + 127).toNat (M - 2 ^ 23)
  else packF32 s 0 M

/-- `RNE32(n / d)` for an integer n and a positive d (00_scope.md R12): roundTiesToEven with gradual
underflow, every zero result +0.0, overflow to a signed infinity. -/
def rne32 (n : Int) (d : Nat) : Word :=
  if n = 0 then 0
  else
    let e : Int := max (floorLog2 n.natAbs d) (-126)
    let M : Nat := roundScaled n.natAbs d (e - 23)
    if M = 2 ^ 24 then packRounded (decide (n < 0)) (e + 1) (2 ^ 23)
    else packRounded (decide (n < 0)) e M

end Sys2Proof.Machine
end

