-- ==== Sys2Proof/Machine/Operands.lean ====
section
/-! DEFINITION. The operand forms: the queue entry each format of 30_encoding.md R67 pushes, and the fields
applying an entry takes from it (42_render.md R90). -/

namespace Sys2Proof.Machine

/-! ### Queue entries, one function per format -/

/-- Format FN: no operand; both argument words are ignored and go into the entry as the latches hold them
(10_state.md R25, log 9). -/
def entryFN (opcode : Byte) (s : State) : QEntry :=
  { opcode := opcode, slot := 0, vel := 0, arg0 := s.cmdArg0, arg1 := s.cmdArg1 }

/-- Format FC: A0 is the sample count, A1 is ignored. -/
def entryFC (opcode : Byte) (sampleCount : Word) (s : State) : QEntry :=
  { opcode := opcode, slot := 0, vel := 0, arg0 := sampleCount, arg1 := s.cmdArg1 }

/-- Format FW: A0 is the index, A1 the sample word. -/
def entryFW (opcode : Byte) (index sample : Word) : QEntry :=
  { opcode := opcode, slot := 0, vel := 0, arg0 := index, arg1 := sample }

/-- Format FA: slot and velocity in OP, A0[15:0] the note, A1 the phase increment. -/
def entryFA (opcode slot : Byte) (note : BitVec 16) (vel : Byte) (inc : Word) : QEntry :=
  { opcode := opcode, slot := slot, vel := vel, arg0 := note.zeroExtend 32, arg1 := inc }

/-- Format FS: the slot in OP, both argument words ignored. -/
def entryFS (opcode slot : Byte) (s : State) : QEntry :=
  { opcode := opcode, slot := slot, vel := 0, arg0 := s.cmdArg0, arg1 := s.cmdArg1 }

/-- Format FE: A0[24:0] the attack step, A1[24:0] the release step. -/
def entryFE (opcode : Byte) (attack release : BitVec 25) : QEntry :=
  { opcode := opcode, slot := 0, vel := 0, arg0 := attack.zeroExtend 32, arg1 := release.zeroExtend 32 }

/-! ### Fields of an entry -/

/-- note = a0[15:0] (42_render.md R90). -/
def entryNote (e : QEntry) : BitVec 16 := e.arg0.extractLsb' 0 16

/-- a = a0[24:0], the attack step (42_render.md R90). -/
def entryAttack (e : QEntry) : BitVec 25 := e.arg0.extractLsb' 0 25

/-- r = a1[24:0], the release step (42_render.md R90). -/
def entryRelease (e : QEntry) : BitVec 25 := e.arg1.extractLsb' 0 25

/-! ### The checks of 60_exceptions.md R105 on operands -/

/-- Step 3: the slot exists, else INVALID_SLOT. -/
def slotCheck (s : State) (slot : Byte) : Option Code :=
  if s.params.numVoices ≤ slot.toNat then some .invalidSlot else none

/-- An envelope step is legal: 1 to 2^24 (10_state.md R23). -/
def stepLegal (a : BitVec 25) : Bool := a != 0 && decide (a.toNat ≤ Config.envOne)

end Sys2Proof.Machine
end

