-- ==== Sys2Proof/Machine/Table.lean ====
section
/-! DEFINITION. The waveform table: CONFIGURE and WRSAMPLE, the lookup datapath, and the PROBE trigger
(40_table.md R75 to R79). -/

namespace Sys2Proof.Machine

/-! ### The lookup datapath -/

/-- What a lookup returns (40_table.md R77): kind FINITE with its word, or kind NONFINITE. -/
inductive LookupResult where
  | finite (w : Word)
  | nonfinite
  deriving DecidableEq, Repr

/-- The word of a lookup; 0x7FC00000 when NONFINITE (40_table.md R77, R79). -/
def LookupResult.word : LookupResult → Word
  | .finite w => w
  | .nonfinite => 0x7FC00000

/-- (1 - f) * f32val(w0) + f * f32val(w1) with f = fr / 2^32, exact, rounded once; NONFINITE when either
neighbour is not finite (40_table.md R77). -/
def interpolate (w0 w1 : Word) (fr : Nat) : LookupResult :=
  if isFinite w0 && isFinite w1 then
    .finite (rne32 ((2 ^ 32 - (fr : Int)) * f32units w0 + (fr : Int) * f32units w1) (2 ^ 32 * f32one))
  else .nonfinite

/-- i0 = (p * N) >> 32 (40_table.md R77). -/
def lookupIndex (N : Nat) (p : Word) : Nat := (p.toNat * N) / 2 ^ 32

/-- fr = (p * N) mod 2^32 (40_table.md R77). -/
def lookupFrac (N : Nat) (p : Word) : Nat := (p.toNat * N) % 2 ^ 32

/-- `Lookup(p)` over the published table (40_table.md R77). -/
def State.lookup (s : State) (p : Word) : LookupResult :=
  let N := s.tableSize.toNat
  if N = 0 then .finite 0
  else
    interpolate (s.mem.readTable (lookupIndex N p)) (s.mem.readTable ((lookupIndex N p + 1) % N))
      (lookupFrac N p)

/-! ### CONFIGURE (R75) -/

/-- Push check: n = 0 or n > TABLE_MAX is INVALID_SIZE. -/
def configureCheck (n : Word) (s : State) : Option Code :=
  if n = 0 ∨ s.params.tableMax < n.toNat then some .invalidSize else none

/-- The push of CONFIGURE; on acceptance, in the same step, `CTL_TABLE_SIZE <- n`. -/
def execConfigure (n : Word) (s : State) : Host.Outcome State Fault Refusal :=
  let pushed := pushCommand (configureCheck n s) (entryFC 0x01 n s) s
  if pushAccepted (configureCheck n s) s then .next { pushed with ctlTableSize := n } else .next pushed

/-- Apply: TABLE_SIZE <- n and a zero fill; voice state is not touched. -/
def applyConfigure (e : QEntry) (s : State) : State :=
  { s with tableSize := e.arg0, mem := s.mem.zeroTable }

/-! ### WRSAMPLE (R76) -/

/-- Push check: an index at or above CTL_TABLE_SIZE is INDEX_OUT_OF_RANGE. -/
def wrsampleCheck (i : Word) (s : State) : Option Code :=
  if s.ctlTableSize.toNat ≤ i.toNat then some .indexOutOfRange else none

/-- The push of WRSAMPLE. -/
def execWrsample (i w : Word) (s : State) : Host.Outcome State Fault Refusal :=
  .next (pushCommand (wrsampleCheck i s) (entryFW 0x02 i w) s)

/-- Apply: `table[i] <- w`, the word stored unchanged. -/
def applyWrsample (e : QEntry) (s : State) : State :=
  { s with mem := s.mem.writeTable e.arg0.toNat e.arg1 }

/-! ### PROBE (R79) -/

/-- The PROBE trigger: refused with ENGINE_BUSY while a block renders, else one lookup of the published
table into PROBE_RESULT. -/
def execProbe (p : Word) (s : State) : Host.Outcome State Fault Refusal :=
  if s.busy then .next (reject .probePhase .engineBusy s)
  else
    .next (setResult .probePhase .ok { s with probePhase := p, probeResult := (s.lookup p).word })

end Sys2Proof.Machine
end

