-- ==== Sys2Proof/Machine/Voice.lean ====
section
/-! DEFINITION. The voice commands, the per-voice sample and the envelope (41_voice.md R80 to R86). -/

namespace Sys2Proof.Machine

/-! ### ACTIVATE (R80) -/

/-- Push checks: the slot range, then INVALID_INCREMENT for a zero increment (60_exceptions.md R105). -/
def activateCheck (slot : Byte) (inc : Word) (s : State) : Option Code :=
  match slotCheck s slot with
  | some c => some c
  | none => if inc = 0 then some .invalidIncrement else none

/-- The push of ACTIVATE. Accepted while CTL_TABLE_SIZE is 0, it is queued and UNINITIALIZED_TABLE is
recorded as a warning (60_exceptions.md R105). -/
def execActivate (slot : Byte) (note : BitVec 16) (vel : Byte) (inc : Word) (s : State) :
    Host.Outcome State Fault Refusal :=
  let pushed := pushCommand (activateCheck slot inc s) (entryFA 0x03 slot note vel inc) s
  if pushAccepted (activateCheck slot inc s) s ∧ s.ctlTableSize = 0 then
    .next (record .cmdOp .uninitializedTable pushed)
  else .next pushed

/-- What ACTIVATE makes of its voice: phase 0, stage Attack, the level kept. -/
def Voice.activate (note : BitVec 16) (vel : Byte) (inc : Word) (v : Voice) : Voice :=
  { v with note := note, vel := vel, inc := inc, phase := 0, stage := .attack }

/-- Apply of ACTIVATE. -/
def applyActivate (e : QEntry) (s : State) : State :=
  s.updateVoice e.slot.toNat (Voice.activate (entryNote e) e.vel e.arg1)

/-! ### RELEASE (R81) -/

/-- The push of RELEASE: only the shared checks. -/
def execRelease (slot : Byte) (s : State) : Host.Outcome State Fault Refusal :=
  .next (pushCommand (slotCheck s slot) (entryFS 0x04 slot s) s)

/-- What RELEASE makes of its voice: Attack or Sustain becomes Release, Idle and Release stay. -/
def Voice.release (v : Voice) : Voice :=
  match v.stage with
  | .attack => { v with stage := .release }
  | .sustain => { v with stage := .release }
  | .idle => v
  | .release => v

/-- Apply of RELEASE. -/
def applyRelease (e : QEntry) (s : State) : State := s.updateVoice e.slot.toNat Voice.release

/-! ### SILENCE (R82) -/

/-- The push of SILENCE: only the shared checks. -/
def execSilence (slot : Byte) (s : State) : Host.Outcome State Fault Refusal :=
  .next (pushCommand (slotCheck s slot) (entryFS 0x05 slot s) s)

/-- What SILENCE makes of its voice: Idle at level 0; note, velocity, phase and increment are kept. -/
def Voice.silence (v : Voice) : Voice := { v with stage := .idle, env := 0 }

/-- Apply of SILENCE. -/
def applySilence (e : QEntry) (s : State) : State := s.updateVoice e.slot.toNat Voice.silence

/-! ### SET_ENV (R83) -/

/-- Push check: a step of 0 or above 2^24 is INVALID_ENV_STEP. -/
def setEnvCheck (a r : BitVec 25) : Option Code :=
  if stepLegal a && stepLegal r then none else some .invalidEnvStep

/-- The push of SET_ENV. -/
def execSetEnv (a r : BitVec 25) (s : State) : Host.Outcome State Fault Refusal :=
  .next (pushCommand (setEnvCheck a r) (entryFE 0x07 a r) s)

/-- Apply of SET_ENV: both steps, for every voice, from the block's first frame. -/
def applySetEnv (e : QEntry) (s : State) : State :=
  { s with attackStep := entryAttack e, releaseStep := entryRelease e }

/-! ### The per-voice sample (R84) and the envelope (R85) -/

/-- `EnvStep(v)`: one linear step toward the stage's target. -/
def Voice.envStep (attackStep releaseStep : BitVec 25) (v : Voice) : Voice :=
  match v.stage with
  | .idle => v
  | .attack =>
    let level := min (v.env.toNat + attackStep.toNat) Config.envOne
    { v with env := BitVec.ofNat 25 level, stage := if level = Config.envOne then .sustain else .attack }
  | .sustain => v
  | .release =>
    let level := v.env.toNat - releaseStep.toNat
    { v with env := BitVec.ofNat 25 level, stage := if level = 0 then .idle else .release }

/-- RNE32(f32val(L) * env * vel / (2^24 * 255)): the exact product, rounded once. -/
def applyGain (L : Word) (env : BitVec 25) (vel : Byte) : Word :=
  rne32 (f32units L * (env.toNat : Int) * (vel.toNat : Int)) (f32one * (Config.envOne * 255))

/-- The word a voice gives for a lookup result: +0.0 when NONFINITE (R84, "degrade to silence"). -/
def gainOrSilence (r : LookupResult) (env : BitVec 25) (vel : Byte) : Word :=
  match r with
  | .finite L => applyGain L env vel
  | .nonfinite => 0

/-- `VoiceSample(v)`: the phase advances, the lookup and the gain use the new phase and the level before this
frame's envelope step, then the envelope steps. Returns the voice after it and the sample word. -/
def State.voiceSample (s : State) (v : Voice) : Voice × Word :=
  let phase := v.phase + v.inc
  ({ v with phase := phase }.envStep s.attackStep s.releaseStep,
    gainOrSilence (s.lookup phase) v.env v.vel)

end Sys2Proof.Machine
end

