-- ==== Sys2Proof/Machine/Render.lean ====
section
/-! DEFINITION. The bank commands, the render trigger, the queue drain, the frame step and the mixing tree
(42_render.md R87 to R93). -/

namespace Sys2Proof.Machine

/-! ### NOP (R87) -/

/-- The push of NOP: it occupies one queue entry. -/
def execNop (s : State) : Host.Outcome State Fault Refusal :=
  .next (pushCommand none (entryFN 0x00 s) s)

/-! ### RESET_ALL (R88) -/

/-- The push of RESET_ALL. -/
def execResetAll (s : State) : Host.Outcome State Fault Refusal :=
  .next (pushCommand none (entryFN 0x06 s) s)

/-- Apply of RESET_ALL: every voice is silenced; nothing else changes. -/
def applyResetAll (s : State) : State := { s with voices := s.voices.map Voice.silence }

/-! ### ApplyAll (R90) -/

/-- Applies one queued command. An opcode above 0x07 cannot be queued (60_exceptions.md R105); it would
change nothing (log 12). -/
def applyEntry (s : State) (e : QEntry) : State :=
  match e.opcode.toNat with
  | 0 => s
  | 1 => applyConfigure e s
  | 2 => applyWrsample e s
  | 3 => applyActivate e s
  | 4 => applyRelease e s
  | 5 => applySilence e s
  | 6 => applyResetAll s
  | 7 => applySetEnv e s
  | _ => s

/-- `ApplyAll()`: every queued command, head first, as one atomic step; the queue is empty after it. -/
def applyAll (s : State) : State := { s.queue.foldl applyEntry s with queue := [] }

/-! ### RENDER (R89) -/

/-- The code a RENDER is rejected with, if any: ENGINE_BUSY, then INVALID_FRAME_COUNT (60_exceptions.md R107
(b); RESERVED_FIELD, which comes first, is the decoder's). -/
def renderCheck (n : BitVec 16) (s : State) : Option Code :=
  if s.busy then some .engineBusy
  else if s.params.outbufFrames < n.toNat then some .invalidFrameCount
  else none

/-- Starts the block after the queue has been applied: LAST_BLOCK_FRAMES, FRAME_IDX, DONE, RENDER_RESULT, and
BUSY, or for n = 0 a block that is complete at once. -/
def startBlock (n : BitVec 16) (s : State) : State :=
  let s1 := setResult .renderCtrl .ok
    { s with lastBlockFrames := n.extractLsb' 0 13, frameIdx := 0, done := false }
  if n = 0 then { s1 with done := true, irqStatus := s1.irqStatus ||| doneIrq }
  else { s1 with busy := true }

/-- The RENDER trigger. A rejected write applies nothing. -/
def execRender (n : BitVec 16) (s : State) : Host.Outcome State Fault Refusal :=
  match renderCheck n s with
  | some c => .next (reject .renderCtrl c s)
  | none => .next (startBlock n (applyAll s))

/-! ### The frame step (R91) and the mixing tree (R92) -/

/-- `Mix(acc) = RNE32(acc)`, acc the exact sum in units of 2^-149. -/
def mix (acc : Int) : Word := rne32 acc f32one

/-- One voice's part of a frame: a voice Idle at the frame's start is left alone and adds nothing. -/
def State.voiceFrame (s : State) (v : Voice) : Voice × Int :=
  if v.active then ((s.voiceSample v).1, f32units (s.voiceSample v).2) else (v, 0)

/-- The exact sum of the frame's voice words, in units of 2^-149. -/
def State.frameSum (s : State) : Int := (s.voices.map (fun v => (s.voiceFrame v).2)).sum

/-- `FrameStep()` of a rendering block. -/
def frameBody (s : State) : State :=
  let idx := s.frameIdx + 1
  let s1 :=
    { s with
      voices := s.voices.map (fun v => (s.voiceFrame v).1)
      mem := s.mem.writeOutbuf s.frameIdx.toNat (mix s.frameSum)
      frameCount := s.frameCount + 1
      frameIdx := idx }
  if idx = s.lastBlockFrames then
    { s1 with busy := false, done := true, irqStatus := s.irqStatus ||| doneIrq }
  else s1

/-- The engine's turn: "enabled exactly when BUSY = 1"; otherwise nothing happens. -/
def frameStep (s : State) : State := if s.busy then frameBody s else s

end Sys2Proof.Machine
end

