-- ==== Sys2Proof/Machine/Dispatch.lean ====
section
/-! DEFINITION. exec: one arm per instruction of spec/opcode_table.json. -/

namespace Sys2Proof.Machine

/-- The meaning of an instruction: for a command, the CMD_OP write that pushes it (30_encoding.md R66); for a
trigger, its register write (42_render.md R89, 40_table.md R79). -/
def exec (i : Instr) (s : State) : Host.Outcome State Fault Refusal :=
  match i with
  | .nop => Sys2Proof.Machine.execNop s
  | .configure n => Sys2Proof.Machine.execConfigure n s
  | .wrsample idx w => Sys2Proof.Machine.execWrsample idx w s
  | .activate slot note vel inc => Sys2Proof.Machine.execActivate slot note vel inc s
  | .release slot => Sys2Proof.Machine.execRelease slot s
  | .silence slot => Sys2Proof.Machine.execSilence slot s
  | .resetAll => Sys2Proof.Machine.execResetAll s
  | .setEnv a r => Sys2Proof.Machine.execSetEnv a r s
  | .render n => Sys2Proof.Machine.execRender n s
  | .probe p => Sys2Proof.Machine.execProbe p s

end Sys2Proof.Machine
end

