-- ==== Sys2Proof/Machine/Registers.lean ====
section
/-! DEFINITION. The register map of 20_memory.md R53 and what a read of each register returns (10_state.md R24
to R48). -/

namespace Sys2Proof.Machine

/-- The fields of one slot's voice window (10_state.md R48). -/
inductive VoiceReg where
  | stage
  | noteVel
  | phase
  | inc
  | env
  deriving DecidableEq, Repr

/-- The registers of the map, by the names of 20_memory.md R53. -/
inductive Reg where
  | id
  | caps0
  | caps1
  | caps2
  | status
  | error
  | cmdResult
  | cmdqLevel
  | irqStatus
  | irqEnable
  | frameCountLo
  | frameCountHi
  | tableSize
  | ctlTableSize
  | attackStep
  | releaseStep
  | cmdArg0
  | cmdArg1
  | cmdOp
  | renderCtrl
  | renderResult
  | lastBlockFrames
  | blockProgress
  | probePhase
  | probeResult
  | probeStatus
  /-- ACTIVE_MASKj. -/
  | activeMask (j : Nat)
  /-- A field of the voice window of slot `v`. -/
  | voice (v : Nat) (field : VoiceReg)
  /-- OUTBUF[k]. -/
  | outbuf (k : Nat)
  deriving DecidableEq, Repr

/-- The registers at fixed offsets, as the rows of 20_memory.md R53 list them. -/
def fixedRegs : List (Nat × Reg) :=
  [(0x0000, .id), (0x0004, .caps0), (0x0008, .caps1), (0x000C, .caps2), (0x0010, .status),
    (0x0014, .error), (0x0018, .cmdResult), (0x001C, .cmdqLevel), (0x0020, .irqStatus),
    (0x0024, .irqEnable), (0x0028, .frameCountLo), (0x002C, .frameCountHi), (0x0030, .tableSize),
    (0x0034, .ctlTableSize), (0x0038, .attackStep), (0x003C, .releaseStep), (0x0040, .cmdArg0),
    (0x0044, .cmdArg1), (0x0048, .cmdOp), (0x0050, .renderCtrl), (0x0054, .renderResult),
    (0x0058, .lastBlockFrames), (0x005C, .blockProgress), (0x0060, .probePhase),
    (0x0064, .probeResult), (0x0068, .probeStatus)]

/-- The offsets of a voice window (10_state.md R48); +0x14 to +0x1C are unmapped. -/
def voiceRegs : List (Nat × VoiceReg) :=
  [(0x00, .stage), (0x04, .noteVel), (0x08, .phase), (0x0C, .inc), (0x10, .env)]

/-- The register at a byte offset, none where the map of 20_memory.md R53 has none. -/
def regAt (p : Params) (off : Nat) : Option Reg :=
  if off < 0x0080 then fixedRegs.lookup off
  else if off < 0x00A0 then
    if off % 4 = 0 then some (.activeMask ((off - 0x0080) / 4)) else none
  else if off < 0x1000 then none
  else if off < 0x3000 then
    if (off - 0x1000) / 0x20 < p.numVoices then
      (voiceRegs.lookup ((off - 0x1000) % 0x20)).map (Reg.voice ((off - 0x1000) / 0x20))
    else none
  else if off < 0x4000 then none
  else if off % 4 = 0 ∧ (off - 0x4000) / 4 < p.outbufFrames then some (.outbuf ((off - 0x4000) / 4))
  else none

/-- The stage's encoding: 0 Idle, 1 Attack, 2 Sustain, 3 Release (00_scope.md R14). -/
def stageBits : Stage → BitVec 2
  | .idle => 0
  | .attack => 1
  | .sustain => 2
  | .release => 3

/-- A word of a voice window (10_state.md R48). -/
def readVoiceReg (v : Voice) : VoiceReg → Word
  | .stage => (stageBits v.stage).zeroExtend 32
  | .noteVel => (0 : Byte) ++ v.vel ++ v.note
  | .phase => v.phase
  | .inc => v.inc
  | .env => v.env.zeroExtend 32

/-- What a read of a register returns (10_state.md R24 to R48). A read of the write-only CMD_OP and
RENDER_CTRL returns 0 (20_memory.md R57). An OUTBUF entry that no frame has written since reset is a free
value (10_state.md R29, log 4). -/
def State.readReg (s : State) : Reg → Word
  | .id => 0x574F5653
  | .caps0 => BitVec.ofNat 16 s.params.cmdqDepth ++ BitVec.ofNat 16 s.params.numVoices
  | .caps1 => BitVec.ofNat 32 s.params.tableMax
  | .caps2 => (0 : BitVec 16) ++ BitVec.ofNat 16 s.params.outbufFrames
  | .status => s.statusWord
  | .error => s.error.zeroExtend 32
  | .cmdResult => s.cmdResult.zeroExtend 32
  | .cmdqLevel => (0 : BitVec 16) ++ BitVec.ofNat 16 s.queue.length
  | .irqStatus => s.irqStatus.zeroExtend 32
  | .irqEnable => s.irqEnable.zeroExtend 32
  | .frameCountLo => s.frameCount.extractLsb' 0 32
  | .frameCountHi => s.frameCount.extractLsb' 32 32
  | .tableSize => s.tableSize
  | .ctlTableSize => s.ctlTableSize
  | .attackStep => s.attackStep.zeroExtend 32
  | .releaseStep => s.releaseStep.zeroExtend 32
  | .cmdArg0 => s.cmdArg0
  | .cmdArg1 => s.cmdArg1
  | .cmdOp => 0
  | .renderCtrl => 0
  | .renderResult => s.renderResult.zeroExtend 32
  | .lastBlockFrames => s.lastBlockFrames.zeroExtend 32
  | .blockProgress => s.frameIdx.zeroExtend 32
  | .probePhase => s.probePhase
  | .probeResult => s.probeResult
  | .probeStatus => s.probeStatus.zeroExtend 32
  | .activeMask j => s.activeMask j
  | .voice v f => readVoiceReg ((s.voices[v]?).getD Voice.reset) f
  | .outbuf k => (s.mem.readOutbuf k).getD (Config.freeOutbuf s.epoch k)

/-- The instruction port a register is, if its write is an instruction (10_state.md R45). -/
def portOf : Reg → Option Port
  | .cmdOp => some .cmdOp
  | .renderCtrl => some .renderCtrl
  | .probePhase => some .probePhase
  | _ => none

/-- A write to a register whose write is no instruction: the argument latches store (10_state.md R24), ERROR
and IRQ_STATUS clear the bits written 1 (R34, R35), IRQ_ENABLE stores bits [1:0] (R36); a write to a
read-only register has no effect (20_memory.md R57). -/
def State.writeReg (s : State) (r : Reg) (d : Word) : State :=
  match r with
  | .cmdArg0 => { s with cmdArg0 := d }
  | .cmdArg1 => { s with cmdArg1 := d }
  | .error => ackError d s
  | .irqStatus => ackIrq d s
  | .irqEnable => { s with irqEnable := d.extractLsb' 0 2 }
  | _ => s

end Sys2Proof.Machine
end

