-- ==== Sys2Proof/Machine/Bus.lean ====
section
/-! DEFINITION. The steps of 20_memory.md R60: a bus access with all its effects, the engine's turn, reset;
and placing an instruction as the next access. -/

namespace Sys2Proof.Machine

/-! ### Admission (R55, R56) -/

/-- The register an access reaches, or why it is not admitted: a misaligned offset, a size other than 32 bits
or a disabled byte lane, an unmapped offset (20_memory.md R55, R56). -/
def accessReg (p : Params) (off : Offset) (size : AccessSize) (lanes : BitVec 4) : Except BusErrorCause Reg :=
  if off.toNat % 4 ≠ 0 then .error .misaligned
  else if size ≠ .bits32 ∨ lanes ≠ 0xF then .error .narrow
  else
    match regAt p off.toNat with
    | some r => .ok r
    | none => .error .unmapped

/-! ### Instruction writes -/

/-- The result code of a write the decoder refuses (30_encoding.md R70). -/
def wordErrorCode : WordError → Code
  | .illegalOpcode => .illegalOpcode
  | .reservedField => .reservedField

/-- A write of `d` to CMD_OP, RENDER_CTRL or PROBE_PHASE: the instruction it decodes to is run; a write that
is none is rejected at its port (60_exceptions.md R105, 42_render.md R89). -/
def issue (port : Port) (d : Word) (s : State) : Host.Outcome State Fault Refusal :=
  match decode port d s.cmdArg0 s.cmdArg1 with
  | .ok i => exec i s
  | .error e => .next (reject port (wordErrorCode e) s)

/-! ### The bus access -/

/-- An admitted write's effect (20_memory.md R53, R57). -/
def writeEffect (r : Reg) (d : Word) (s : State) : Host.Outcome State Fault Refusal :=
  match portOf r with
  | some port => issue port d s
  | none => .next (s.writeReg r d)

/-- `BusRead(off)`: the read data is the response; no read has a side effect (20_memory.md R57). -/
def busRead (off : Offset) (size : AccessSize) (s : State) : Host.Outcome State Fault Refusal :=
  match accessReg s.params off size 0xF with
  | .error c => .fault (.busError off c)
  | .ok r => .next { s with resp := .readOkay (s.readReg r) }

/-- `BusWrite(off, data)`: OKAY whether what it asks for is accepted or rejected (60_exceptions.md R105). -/
def busWrite (off : Offset) (size : AccessSize) (lanes : BitVec 4) (d : Word) (s : State) :
    Host.Outcome State Fault Refusal :=
  match accessReg s.params off size lanes with
  | .error c => .fault (.busError off c)
  | .ok r => writeEffect r d { s with resp := .writeOkay }

/-! ### Reset (70_reset_and_hazards.md R120) -/

/-- `Reset()`: every state element at its value of 10_state.md R50. The steps still to come and the
parameters are the world's, not the block's; the entries of the output buffer become unspecified anew. -/
def resetStep (s : State) : State :=
  { State.resetWith s.params with inputs := s.inputs, resp := s.resp, epoch := s.epoch + 1 }

/-! ### One step -/

/-- Takes one input (20_memory.md R60). -/
def stepInput (i : Input) (s : State) : Host.Outcome State Fault Refusal :=
  match i with
  | .read off size => busRead off size s
  | .write off size lanes d => busWrite off size lanes d s
  | .frame => .next (frameStep s)
  | .reset => .next (resetStep s)

/-- The step of a state: the next input, or, when none is left, the engine's turn, so that an accepted block
completes (70_reset_and_hazards.md R134, weak fairness, log 2 and log 15). -/
def stepState (s : State) : Host.Outcome State Fault Refusal :=
  match s.inputs with
  | [] => .next (frameStep s)
  | i :: rest => stepInput i { s with inputs := rest }

/-! ### Placing an instruction -/

/-- The offset of an instruction port (20_memory.md R53). -/
def portOffset : Port → Offset
  | .cmdOp => 0x0048
  | .renderCtrl => 0x0050
  | .probePhase => 0x0060

/-- A full 32-bit write. -/
def fullWrite (off : Offset) (d : Word) : Input := .write off .bits32 0xF d

/-- Puts a table word's write before every other input; for a command its argument words go into the latches
that the write reads (30_encoding.md R66, log 8). -/
def placeTableWord (s : State) (w : Nat) : State :=
  let port := tablePort w
  let s1 := { s with inputs := fullWrite (portOffset port) (tableOp w) :: s.inputs }
  match port with
  | .cmdOp => { s1 with cmdArg0 := tableA0 w, cmdArg1 := tableA1 w }
  | .renderCtrl => s1
  | .probePhase => s1

end Sys2Proof.Machine
end

