-- ==== Sys2Proof/Machine/Step.lean ====
section
/-! DEFINITION. The step function and the placing of an instruction where the next step takes it. -/

namespace Sys2Proof.Machine

/-- One step of the block (20_memory.md R60): the next bus access, engine turn or reset of `inputs`, and the
engine's turn when no input is left. -/
def step (s : State) : Host.Outcome State Fault Refusal := stepState s

/-- `s` with the instruction whose low `nbits` bits are `w` as the very next input. -/
def State.withFetchWord (s : State) (nbits w : Nat) : State := placeTableWord s (w % 2 ^ nbits)

end Sys2Proof.Machine
end

