-- ==== Sys2Proof/Machine/Program.lean ====
section
/-! DEFINITION. The assembler statements and pseudo-instructions of 30_encoding.md R73 and R74, as the bus
accesses they expand to. They belong to the bus master's program, not to the block (30_encoding.md R72). -/

namespace Sys2Proof.Machine

/-- `wr OFF, DATA`: one 32-bit bus write (30_encoding.md R73). -/
def asmWr (off : Offset) (d : Word) : List Input := [fullWrite off d]

/-- `rd OFF`: one 32-bit bus read (30_encoding.md R73). -/
def asmRd (off : Offset) : List Input := [.read off .bits32]

/-- The format uses A0 (30_encoding.md R67). -/
def usesA0 : Instr → Bool
  | .nop => false
  | .configure _ => true
  | .wrsample _ _ => true
  | .activate _ _ _ _ => true
  | .release _ => false
  | .silence _ => false
  | .resetAll => false
  | .setEnv _ _ => true
  | .render _ => false
  | .probe _ => false

/-- The format uses A1 (30_encoding.md R67). -/
def usesA1 : Instr → Bool
  | .nop => false
  | .configure _ => false
  | .wrsample _ _ => true
  | .activate _ _ _ _ => true
  | .release _ => false
  | .silence _ => false
  | .resetAll => false
  | .setEnv _ _ => true
  | .render _ => false
  | .probe _ => false

/-- The writes a command or trigger statement expands to, in order: CMD_ARG0 if the format uses A0, CMD_ARG1
if it uses A1, then the instruction's own register (30_encoding.md R73). -/
def asm (i : Instr) : List Input :=
  (if usesA0 i then asmWr 0x0040 (encode i).2.1 else []) ++
    (if usesA1 i then asmWr 0x0044 (encode i).2.2 else []) ++ asmWr (portOffset i.port) (encode i).1

/-- `SYNC` = `RENDER 0` (30_encoding.md R74). -/
def asmSync : List Input := asm (.render 0)

/-- The WRSAMPLEs of `LOADTABLE`: one for every word that is not 0x00000000, in increasing index. -/
def asmSamples : Nat → List Word → List Input
  | _, [] => []
  | i, w :: ws =>
    (if w = 0 then [] else asm (.wrsample (BitVec.ofNat 32 i) w)) ++ asmSamples (i + 1) ws

/-- `LOADTABLE w0, ..., w(n-1)` = `CONFIGURE n` and the WRSAMPLEs of the words that are not 0 (30_encoding.md
R74). -/
def asmLoadTable (ws : List Word) : List Input :=
  asm (.configure (BitVec.ofNat 32 ws.length)) ++ asmSamples 0 ws

/-- `CLEARERR`: clear every ERROR bit and ERROR_IRQ (30_encoding.md R74). -/
def asmClearErr : List Input := asmWr 0x0014 0xFFFFFFFF ++ asmWr 0x0020 0x00000002

/-- One turn of `WAITDONE`'s loop: `rd 0x0010`. The loop ends when `pollDone` holds of the word read
(30_encoding.md R73, R74). -/
def asmPollDone : List Input := asmRd 0x0010

/-- `(data & 0x00000003) == 0x00000002`: BUSY = 0 and DONE = 1 (30_encoding.md R74). -/
def pollDone (data : Word) : Bool := data &&& 0x00000003 == 0x00000002

end Sys2Proof.Machine
end

