-- ==== Sys2Proof/Machine/Firmware.lean ====
section
/-! DEFINITION. The contract on the firmware that drives the block (45_firmware_boundary.md R94 to R102), as
functions from what the firmware knows and has read to the commands it pushes. The block has none of this
state (R94; 00_scope.md R6 (a)(b)): no field of State, no step and no instruction uses this file (log 18). -/

namespace Sys2Proof.Machine

/-- The firmware's state (45_firmware_boundary.md R94). -/
structure Firmware where
  /-- `map: note -> slot`, at most one entry per note. -/
  map : List (BitVec 16 × Nat)
  /-- `age[slot]`, the sequence number of the slot's last allocation. -/
  age : List (Nat × Nat)
  /-- `pend`: slots with an ACTIVATE pushed and not applied. -/
  pend : List Nat
  /-- The last sequence number given. -/
  lastSeq : Nat
  /-- The sample rate in frames per second, once the host has supplied it (R96). -/
  sr : Option Nat
  deriving DecidableEq, Repr

/-- The firmware at the start: map, age and pend empty, no sample rate. -/
def Firmware.start : Firmware := { map := [], age := [], pend := [], lastSeq := 0, sr := none }

/-! ### Frequency to increment (R95) -/

/-- `Inc(freq, sr)` for freq = n / d Hz: round_half_even(freq * 2^32 / sr) mod 2^32. For a sample rate of 0,
or d = 0, the quotient does not exist and the spec gives no value: the increment is then 0, so that noteOn
pushes nothing (DESIGN CHOICE, log 21). -/
def incOfFreq (n d sr : Nat) : Word :=
  if d * sr = 0 then 0 else BitVec.ofNat 32 (roundHalfEven (n * 2 ^ 32) (d * sr))

/-- The greatest `r` below 2^bits, above `acc`'s part, with r^12 <= t. -/
def root12 : Nat → Nat → Nat → Nat
  | 0, _, acc => acc
  | bit + 1, t, acc => if (acc + 2 ^ bit) ^ 12 ≤ t then root12 bit t (acc + 2 ^ bit) else root12 bit t acc

/-- The integer nearest (a / b)^(1/12), for a value that is no half-integer: floor of the root of
2^12 * a / b, plus one, halved. -/
def nearestRoot12 (a b : Nat) : Nat :=
  let t := 2 ^ 12 * a / b
  (root12 (Nat.log2 t / 12 + 1) t 0 + 1) / 2

/-- `Inc(FreqFromNote(note), sr)` with FreqFromNote(n) = 440 * 2^((n - 69) / 12) (R95). For n - 69 a multiple
of 12 the frequency is rational; otherwise it is irrational, no tie can occur, and the nearest integer is
found from the twelfth power. For a sample rate of 0 the increment is 0, as for incOfFreq (DESIGN CHOICE, log
21). -/
def incOfNote (note : BitVec 16) (sr : Nat) : Word :=
  let n := note.toNat
  if sr = 0 then 0
  else if n % 12 = 69 % 12 then
    if 69 ≤ n then incOfFreq (440 * 2 ^ ((n - 69) / 12)) 1 sr else incOfFreq 440 (2 ^ ((69 - n) / 12)) sr
  else if 69 ≤ n then
    BitVec.ofNat 32 (nearestRoot12 ((440 * 2 ^ 32) ^ 12 * 2 ^ (n - 69)) (sr ^ 12))
  else BitVec.ofNat 32 (nearestRoot12 ((440 * 2 ^ 32) ^ 12) (sr ^ 12 * 2 ^ (69 - n)))

/-! ### Note events (R97 to R102) -/

/-- What the firmware has read before an event: the ACTIVE_MASK words and CMDQ_LEVEL. -/
structure FirmwareView where
  masks : List Word
  level : Nat
  deriving DecidableEq, Repr

/-- What an event comes to. -/
inductive FirmwareOutcome where
  /-- These commands are pushed, in order. -/
  | pushes (cmds : List Instr) (fw : Firmware)
  /-- The queue lacks room: wait for the next block start (R102). -/
  | wait
  /-- The increment is 0: no ACTIVATE is pushed, the note is reported unplayable (R95). -/
  | unplayable
  /-- The host has supplied no sample rate: no ACTIVATE is pushed (R96). -/
  | noSampleRate
  deriving DecidableEq, Repr

/-- ACTIVE_MASK bit `s` as read; a word that has not been read counts as 0 (DESIGN CHOICE, log 21). -/
def FirmwareView.maskBit (v : FirmwareView) (s : Nat) : Bool :=
  ((v.masks[s / 32]?).getD 0).getLsbD (s % 32)

/-- `busy(s)`: in use, counting unapplied ACTIVATEs (R97). -/
def slotBusy (v : FirmwareView) (fw : Firmware) (s : Nat) : Bool := v.maskBit s || fw.pend.contains s

/-- The lowest-index free slot (R97, case 2). -/
def freeSlot (p : Params) (v : FirmwareView) (fw : Firmware) : Option Nat :=
  (List.range p.numVoices).find? (fun s => !slotBusy v fw s)

/-- `age[s]`; a slot with no record counts as oldest (the spec is silent, log 21). -/
def Firmware.ageOf (fw : Firmware) (s : Nat) : Nat := (fw.age.lookup s).getD 0

/-- The slot with the least age (R97, case 3). R97 says that ages are distinct; where several slots have none,
as after resetAll and before the block start that applies RESET_ALL, they tie as oldest and the lowest of them
is taken (DESIGN CHOICE, log 21). -/
def oldestSlot (p : Params) (fw : Firmware) : Nat :=
  (List.range p.numVoices).foldl (fun best s => if fw.ageOf s < fw.ageOf best then s else best) 0

/-- The ACTIVATE of a slot. -/
def activateSlot (s : Nat) (note : BitVec 16) (vel : Byte) (inc : Word) : Instr :=
  .activate (BitVec.ofNat 8 s) note vel inc

/-- `pend += {s}`. -/
def Firmware.markPending (fw : Firmware) (s : Nat) : Firmware :=
  { fw with pend := if fw.pend.contains s then fw.pend else s :: fw.pend }

/-- `map[note] <- s ; age[s] <- next sequence number`. -/
def Firmware.allocate (fw : Firmware) (note : BitVec 16) (s : Nat) : Firmware :=
  { fw with
    map := (note, s) :: fw.map.filter (fun e => e.1 != note)
    age := (s, fw.lastSeq + 1) :: fw.age.filter (fun e => e.1 != s)
    lastSeq := fw.lastSeq + 1 }

/-- Removes every entry of map whose slot is `s`. -/
def Firmware.unmapSlot (fw : Firmware) (s : Nat) : Firmware :=
  { fw with map := fw.map.filter (fun e => e.2 != s) }

/-- The event's commands, if the queue has room for all of them (R102). An event of more commands than
CMDQ_DEPTH never has room, at CMDQ_LEVEL 0 neither: with CMDQ_DEPTH = 1 a steal waits for ever. There R102's
bound on the waiting and its "never queued without its ACTIVATE" cannot both hold, and the model keeps the
second (DESIGN CHOICE, log 23). -/
def pushIfRoom (p : Params) (v : FirmwareView) (cmds : List Instr) (fw : Firmware) : FirmwareOutcome :=
  if v.level + cmds.length ≤ p.cmdqDepth then .pushes cmds fw else .wait

/-- `startNote(note, vel, inc)` (R97): retrigger in place, else the lowest free slot, else steal the oldest. -/
def startNote (p : Params) (v : FirmwareView) (note : BitVec 16) (vel : Byte) (inc : Word) (fw : Firmware) :
    FirmwareOutcome :=
  match fw.map.lookup note with
  | some s => pushIfRoom p v [activateSlot s note vel inc] (fw.markPending s)
  | none =>
    match freeSlot p v fw with
    | some s => pushIfRoom p v [activateSlot s note vel inc] ((fw.markPending s).allocate note s)
    | none =>
      let s := oldestSlot p fw
      pushIfRoom p v [.silence (BitVec.ofNat 8 s), activateSlot s note vel inc]
        (((fw.unmapSlot s).markPending s).allocate note s)

/-- `noteOn(note, velocity[, frequencyHz])` (R97) with the increment of R95; a frequency is a numerator and a
positive denominator in Hz. -/
def noteOn (p : Params) (v : FirmwareView) (note : BitVec 16) (vel : Byte) (freq : Option (Nat × Nat))
    (fw : Firmware) : FirmwareOutcome :=
  match fw.sr with
  | none => .noSampleRate
  | some sr =>
    let inc := match freq with
      | some (n, d) => incOfFreq n d sr
      | none => incOfNote note sr
    if inc = 0 then .unplayable else startNote p v note vel inc fw

/-- `noteOff(note)` (R99): RELEASE of the mapped slot and the mapping's end; no command for an unmapped note. -/
def noteOff (p : Params) (v : FirmwareView) (note : BitVec 16) (fw : Firmware) : FirmwareOutcome :=
  match fw.map.lookup note with
  | some s =>
    pushIfRoom p v [.release (BitVec.ofNat 8 s)]
      { fw with map := fw.map.filter (fun e => e.1 != note) }
  | none => .pushes [] fw

/-- `resetAll()` (R100): RESET_ALL, and map, age and pend emptied. It checks for room as a note event of one
push does, of which R100 says nothing (DESIGN CHOICE, log 21). -/
def firmwareReset (p : Params) (v : FirmwareView) (fw : Firmware) : FirmwareOutcome :=
  pushIfRoom p v [.resetAll] { fw with map := [], age := [], pend := [] }

/-! ### Table events (R101) -/

/-- A sample as the host gives it to the firmware. -/
inductive SampleValue where
  /-- An exact number. -/
  | number (q : ℚ)
  /-- A value already in binary32, "passed unchanged" (R101). -/
  | word (w : Word)
  deriving DecidableEq, Repr

/-- The sample word of a value: RNE32(value), or the word itself (R101). -/
def SampleValue.toWord : SampleValue → Word
  | .number q => rne32 q.num q.den
  | .word w => w

/-- `configureWaveform(n)`: the command CONFIGURE n (R101). -/
def configureWaveform (n : Word) : Instr := .configure n

/-- `setWaveformSample(value, index)`: the command WRSAMPLE index, RNE32(value) (R101). -/
def setWaveformSample (value : SampleValue) (index : Word) : Instr := .wrsample index value.toWord

/-- The source's error kinds (60_exceptions.md R104, "source kind"). -/
inductive SourceError where
  | invalidSize
  | indexOutOfRange
  | uninitializedTable
  deriving DecidableEq, Repr

/-- The source's error that a CMD_RESULT read right after the push reports: 1 InvalidSize, 2 IndexOutOfRange,
and the warning 3 UninitializedTable of an ACTIVATE that is accepted all the same (R101, 60_exceptions.md
R104). The other codes are none of the source's. -/
def sourceError (cmdResult : Byte) : Option SourceError :=
  if cmdResult = codeByte .invalidSize then some .invalidSize
  else if cmdResult = codeByte .indexOutOfRange then some .indexOutOfRange
  else if cmdResult = codeByte .uninitializedTable then some .uninitializedTable
  else none

/-! ### Block starts (R97) -/

/-- A block start was seen: CMDQ_LEVEL reads 0, and pend is emptied (R97). -/
def sawBlockStart (v : FirmwareView) (fw : Firmware) : Firmware :=
  if v.level = 0 then { fw with pend := [] } else fw

end Sys2Proof.Machine
end

