-- ==== Sys2Proof/Safety.lean ====
section
/-! DEFINITION. What holds of every state a run from reset can reach, and which inputs a step completes on.
The invariants are those the spec states (10_state.md R21, R23, R25, R26, R28, 60_exceptions.md R104) and the
canonical form of the word stores. -/

namespace Sys2Proof.Machine

/-- 10_state.md R21 (a) to (d) for one voice. -/
structure Voice.Ok (v : Voice) : Prop where
  /-- (a) an Idle voice is at level 0. -/
  idle_level : v.stage = .idle → v.env = 0
  /-- (b) a non-Idle voice has a non-zero increment. -/
  active_inc : v.stage ≠ .idle → v.inc ≠ 0
  /-- (c) a Sustain voice is at full level. -/
  sustain_level : v.stage = .sustain → v.env.toNat = Config.envOne
  /-- (d) the level is at most 2^24. -/
  level_le : v.env.toNat ≤ Config.envOne

/-- The legal value of an envelope step register: 1 to 2^24 (10_state.md R23). -/
def StepOk (a : BitVec 25) : Prop := 1 ≤ a.toNat ∧ a.toNat ≤ Config.envOne

/-- What 60_exceptions.md R105 has checked of a queued command, apart from a WRSAMPLE's index: its opcode is
0x00 to 0x07 and its operands are in range. -/
structure QEntry.Ok (p : Params) (e : QEntry) : Prop where
  opcode_le : e.opcode.toNat ≤ 7
  slot_lt : 3 ≤ e.opcode.toNat → e.opcode.toNat ≤ 5 → e.slot.toNat < p.numVoices
  size_range : e.opcode.toNat = 1 → e.arg0 ≠ 0 ∧ e.arg0.toNat ≤ p.tableMax
  inc_ne : e.opcode.toNat = 3 → e.arg1 ≠ 0
  note_width : e.opcode.toNat = 3 → e.arg0.toNat < 2 ^ 16
  steps_width : e.opcode.toNat = 7 → e.arg0.toNat < 2 ^ 25 ∧ e.arg1.toNat < 2 ^ 25
  steps_range : e.opcode.toNat = 7 → StepOk (entryAttack e) ∧ StepOk (entryRelease e)

/-- The table size after a queued command has been applied to a table of size `n` (40_table.md R75). -/
def sizeAfter (n : Word) (e : QEntry) : Word := if e.opcode.toNat = 1 then e.arg0 else n

/-- Every queued WRSAMPLE's index lies below the table size at its turn (40_table.md R76). -/
def indicesFit : Word → List QEntry → Prop
  | _, [] => True
  | n, e :: es => (e.opcode.toNat = 2 → e.arg0.toNat < n.toNat) ∧ indicesFit (sizeAfter n e) es

/-- The voice array: P slots, each as 10_state.md R21 says, and legal envelope steps (R23). -/
structure VoicesOk (s : State) : Prop where
  length_eq : s.voices.length = s.params.numVoices
  voice_ok : ∀ v ∈ s.voices, v.Ok
  attack_ok : StepOk s.attackStep
  release_ok : StepOk s.releaseStep

/-- The queue: at most CMDQ_DEPTH validated commands (10_state.md R25). -/
structure QueueOk (s : State) : Prop where
  length_le : s.queue.length ≤ s.params.cmdqDepth
  entry_ok : ∀ e ∈ s.queue, e.Ok s.params

/-- The two table sizes (10_state.md R22, R26): CTL_TABLE_SIZE is what TABLE_SIZE will be once the queue has
been applied, and the queued WRSAMPLEs fit. -/
structure TableSizesOk (s : State) : Prop where
  published_le : s.tableSize.toNat ≤ s.params.tableMax
  control_eq : s.ctlTableSize = s.queue.foldl sizeAfter s.tableSize
  indices_fit : indicesFit s.tableSize s.queue

/-- The render sequencer (10_state.md R28). -/
structure SequencerOk (s : State) : Prop where
  busy_iff : s.busy = true ↔ s.frameIdx.toNat < s.lastBlockFrames.toNat
  idx_le : s.frameIdx.toNat ≤ s.lastBlockFrames.toNat
  frames_le : s.lastBlockFrames.toNat ≤ s.params.outbufFrames
  busy_not_done : s.busy = true → s.done = false

/-- The word stores: canonical, and no word listed that the block does not have (10_state.md R22, R29). -/
structure StoresOk (s : State) : Prop where
  canonical : s.mem.wf = true
  table_bound : ∀ c ∈ s.mem.table, c.1 < s.tableSize.toNat
  outbuf_bound : ∀ c ∈ s.mem.outbuf, c.1 < s.params.outbufFrames

/-- The result registers hold a code of 60_exceptions.md R104: "Codes 12 to 255 are never produced". -/
structure CodesOk (s : State) : Prop where
  cmd_le : s.cmdResult.toNat ≤ 11
  render_le : s.renderResult.toNat ≤ 11
  probe_le : s.probeStatus.toNat ≤ 11

/-- What every reachable state satisfies. -/
structure Inv (s : State) : Prop where
  params_legal : s.params.Legal
  voices_ok : VoicesOk s
  queue_ok : QueueOk s
  sizes_ok : TableSizesOk s
  sequencer_ok : SequencerOk s
  stores_ok : StoresOk s
  codes_ok : CodesOk s

/-- The access is one 20_memory.md R55 admits; an engine turn and reset always take place. -/
def Input.admitted (p : Params) : Input → Bool
  | .read off size =>
    match accessReg p off size 0xF with
    | .ok _ => true
    | .error _ => false
  | .write off size lanes _ =>
    match accessReg p off size lanes with
    | .ok _ => true
    | .error _ => false
  | .frame => true
  | .reset => true

/-- A safe run: every input still to come is an access the block admits (20_memory.md R55). -/
def State.safeInputs (s : State) : Prop := ∀ i ∈ s.inputs, Input.admitted s.params i = true

end Sys2Proof.Machine
end

