-- ==== Sys2Proof/WellFormed.lean ====
section
/-! DEFINITION. Operand legality: the ranges that spec/opcode_table.json and 60_exceptions.md R104 give an
instruction's operands under given implementation parameters. An instruction outside them is still an
instruction: the block rejects it with a result code (60_exceptions.md R105). The reserved fields of an
encoding need no check here, since the operand fields have the encoding's widths. -/

namespace Sys2Proof

namespace Instr

/-- Every operand lies in the range 60_exceptions.md R104 accepts, apart from the checks that depend on the
block's state (INDEX_OUT_OF_RANGE, QUEUE_FULL, ENGINE_BUSY). -/
def wellFormed (p : Params) : Instr → Bool
  | .nop => true
  | .configure n => decide (n ≠ 0 ∧ n.toNat ≤ p.tableMax)
  | .wrsample i _ => decide (i.toNat < p.tableMax)
  | .activate s _ _ inc => decide (s.toNat < p.numVoices ∧ inc ≠ 0)
  | .release s => decide (s.toNat < p.numVoices)
  | .silence s => decide (s.toNat < p.numVoices)
  | .resetAll => true
  | .setEnv a r =>
    decide ((a ≠ 0 ∧ a.toNat ≤ Config.envOne) ∧ (r ≠ 0 ∧ r.toNat ≤ Config.envOne))
  | .render n => decide (n.toNat ≤ p.outbufFrames)
  | .probe _ => true

/-- Operand legality as a decidable Prop. -/
abbrev WellFormed (p : Params) (i : Instr) : Prop := i.wellFormed p = true

end Instr

end Sys2Proof
end

