-- ==== Sys2Proof/Certificates/Slice0/Obligations.lean ====
section
/-! DEFINITION. The statements for the provers, and the transcriptions of the spec's pseudocode that they
compare the model with. -/

open Sys2Proof Sys2Proof.Machine

namespace Sys2Proof.Machine.Spec

/-! ### The spec's pseudocode, over rationals and raw words -/

/-- `round_half_even(y)` of 00_scope.md R12, on rationals. -/
def roundHalfEven (y : ℚ) : ℤ :=
  if y - ⌊y⌋ < 1 / 2 then ⌊y⌋
  else if 1 / 2 < y - ⌊y⌋ then ⌊y⌋ + 1
  else if ⌊y⌋ % 2 = 0 then ⌊y⌋ else ⌊y⌋ + 1

/-- `RNE32(x)` line by line (00_scope.md R12). `Int.log 2 a` is floor(log2(a)) for positive a. -/
def rne32 (x : ℚ) : Word :=
  if x = 0 then 0x00000000
  else
    let e0 : ℤ := max (Int.log 2 |x|) (-126)
    let M0 : ℤ := roundHalfEven (|x| / (2 : ℚ) ^ (e0 - 23))
    let M : ℤ := if M0 = 2 ^ 24 then 2 ^ 23 else M0
    let e : ℤ := if M0 = 2 ^ 24 then e0 + 1 else e0
    if M = 0 then 0x00000000
    else if 127 < e then (if x < 0 then 0xFF800000 else 0x7F800000)
    else if 2 ^ 23 ≤ M then
      BitVec.ofBool (decide (x < 0)) ++ BitVec.ofInt 8 (e + 127) ++ BitVec.ofInt 23 (M - 2 ^ 23)
    else BitVec.ofBool (decide (x < 0)) ++ (0 : BitVec 8) ++ BitVec.ofInt 23 M

/-- `f32val(w)` by the two formulas of 00_scope.md R11 (for a finite word). -/
def f32val (w : Word) : ℚ :=
  (if w.getLsbD 31 then -1 else 1) *
    (if (w.extractLsb' 23 8).toNat = 0 then ((w.extractLsb' 0 23).toNat : ℚ) * (2 : ℚ) ^ (-149 : ℤ)
     else (2 ^ 23 + ((w.extractLsb' 0 23).toNat : ℚ)) * (2 : ℚ) ^ (((w.extractLsb' 23 8).toNat : ℤ) - 150))

/-- `BusWrite(0x0048, op)` line by line (60_exceptions.md R105). -/
def cmdOpWrite (op : Word) (s : State) : State :=
  let opc := (op.extractLsb' 0 8).toNat
  let slot := (op.extractLsb' 8 8).toNat
  let a0 := s.cmdArg0
  let a1 := s.cmdArg1
  if 7 < opc then record .cmdOp .illegalOpcode s
  else if op.extractLsb' 24 8 ≠ 0 then record .cmdOp .reservedField s
  else if opc ∈ [0, 1, 2, 6, 7] ∧ op.extractLsb' 8 16 ≠ 0 then record .cmdOp .reservedField s
  else if opc ∈ [4, 5] ∧ op.extractLsb' 16 8 ≠ 0 then record .cmdOp .reservedField s
  else if opc = 3 ∧ a0.extractLsb' 16 16 ≠ 0 then record .cmdOp .reservedField s
  else if opc = 7 ∧ (a0.extractLsb' 25 7 ≠ 0 ∨ a1.extractLsb' 25 7 ≠ 0) then record .cmdOp .reservedField s
  else if opc ∈ [3, 4, 5] ∧ s.params.numVoices ≤ slot then record .cmdOp .invalidSlot s
  else if opc = 1 ∧ (a0 = 0 ∨ s.params.tableMax < a0.toNat) then record .cmdOp .invalidSize s
  else if opc = 2 ∧ s.ctlTableSize.toNat ≤ a0.toNat then record .cmdOp .indexOutOfRange s
  else if opc = 3 ∧ a1 = 0 then record .cmdOp .invalidIncrement s
  else if opc = 7 ∧ (a0 = 0 ∨ 2 ^ 24 < a0.toNat ∨ a1 = 0 ∨ 2 ^ 24 < a1.toNat) then
    record .cmdOp .invalidEnvStep s
  else if s.queue.length = s.params.cmdqDepth then record .cmdOp .queueFull s
  else
    let e : QEntry :=
      { opcode := op.extractLsb' 0 8, slot := op.extractLsb' 8 8, vel := op.extractLsb' 16 8, arg0 := a0, arg1 := a1 }
    let pushed := { s with queue := s.queue ++ [e] }
    let sized := if opc = 1 then { pushed with ctlTableSize := a0 } else pushed
    if opc = 3 ∧ s.ctlTableSize = 0 then record .cmdOp .uninitializedTable sized
    else { sized with cmdResult := 0 }

/-- `BusWrite(0x0050, d)` line by line (42_render.md R89). -/
def renderCtrlWrite (d : Word) (s : State) : State :=
  let n := (d.extractLsb' 0 16).toNat
  if d.extractLsb' 16 16 ≠ 0 then record .renderCtrl .reservedField s
  else if s.busy = true then record .renderCtrl .engineBusy s
  else if s.params.outbufFrames < n then record .renderCtrl .invalidFrameCount s
  else
    let t := { applyAll s with
      lastBlockFrames := BitVec.ofNat 13 n, frameIdx := 0, done := false, renderResult := 0 }
    if n = 0 then { t with done := true, irqStatus := t.irqStatus ||| 1 } else { t with busy := true }

/-- `BusWrite(0x0060, w)` line by line (40_table.md R79). -/
def probePhaseWrite (w : Word) (s : State) : State :=
  if s.busy = true then record .probePhase .engineBusy s
  else { s with probePhase := w, probeResult := (s.lookup w).word, probeStatus := 0 }

/-- `EnvStep(v)` line by line (41_voice.md R85): stage and level after one step. -/
def envStep (attackStep releaseStep : ℕ) : Stage × ℕ → Stage × ℕ
  | (.attack, E) =>
    (if min (E + attackStep) (2 ^ 24) = 2 ^ 24 then .sustain else .attack, min (E + attackStep) (2 ^ 24))
  | (.release, E) => (if E - releaseStep = 0 then .idle else .release, E - releaseStep)
  | (.sustain, E) => (.sustain, E)
  | (.idle, E) => (.idle, E)

/-- The exact sum of a frame's voice words in slot order (42_render.md R91). -/
def frameSum (s : State) : ℚ :=
  s.voices.foldl (fun acc v => if v.stage ≠ .idle then acc + f32val (s.voiceSample v).2 else acc) 0

/-- What a block's frames read and write: the state a block's output is a function of (42_render.md R91). -/
def renderView (s : State) :
    (Params × List Voice × Word × Memory) × (BitVec 25 × BitVec 25) × (Bool × Bool) ×
      (BitVec 13 × BitVec 13) × BitVec 64 :=
  ((s.params, s.voices, s.tableSize, s.mem), (s.attackStep, s.releaseStep), (s.busy, s.done),
    (s.frameIdx, s.lastBlockFrames), s.frameCount)

/-- The state after a list of inputs, none when one of them faults. -/
def runInputs : List Input → State → Option State
  | [], s => some s
  | i :: is, s =>
    match stepInput i s with
    | .next t => runInputs is t
    | .fault _ => none
    | .refused _ => none

/-- How many of the inputs are turns of the engine. -/
def frameTurns (xs : List Input) : ℕ := xs.countP (fun i => decide (i = .frame))

/-- The head input is a RENDER_CTRL write that 42_render.md R89 accepts. -/
def acceptsRender (s : State) : Prop :=
  ∃ d rest, s.inputs = fullWrite 0x0050 d :: rest ∧ d.extractLsb' 16 16 = 0 ∧ s.busy = false ∧
    (d.extractLsb' 0 16).toNat ≤ s.params.outbufFrames

/-- The head input is the reset input. -/
def takesReset (s : State) : Prop := ∃ rest, s.inputs = .reset :: rest

/-- The step is a frame step: the engine's turn while BUSY = 1 (42_render.md R91). -/
def takesFrame (s : State) : Prop :=
  s.busy = true ∧ (s.inputs = [] ∨ ∃ rest, s.inputs = .frame :: rest)

/-- The result codes other than OK with their numbers (60_exceptions.md R104) and their bits of ERROR
(10_state.md R34, "Bit map"). -/
def codes : List (Code × ℕ × BitVec 11) :=
  [(.invalidSize, 1, 0x001), (.indexOutOfRange, 2, 0x002), (.uninitializedTable, 3, 0x004),
    (.invalidSlot, 4, 0x008), (.invalidIncrement, 5, 0x010), (.invalidEnvStep, 6, 0x020),
    (.queueFull, 7, 0x040), (.illegalOpcode, 8, 0x080), (.reservedField, 9, 0x100),
    (.engineBusy, 10, 0x200), (.invalidFrameCount, 11, 0x400)]

/-- The code in a port's result register. -/
def resultOf (p : Port) (s : State) : Byte :=
  match p with
  | .cmdOp => s.cmdResult
  | .renderCtrl => s.renderResult
  | .probePhase => s.probeStatus

end Sys2Proof.Machine.Spec

/-! ### Encoding -/

/-- Decoding the words, and the bytes, of any instruction gives that instruction, for every operand value
(30_encoding.md R66, R67, R69). -/
def Obligations.DecodeEncodeRoundTrip : Prop :=
  ∀ i : Instr,
    decode i.port (encode i).1 (encode i).2.1 (encode i).2.2 = .ok i ∧
      decodeBytes i.port (encodeBytes i) = .ok i

/-- The other direction: words that decode are the encoding of what they decode to, in the op or data word
and in every argument word the format uses (30_encoding.md R67). -/
def Obligations.DecodedWordsAreTheEncoding : Prop :=
  ∀ (port : Port) (op a0 a1 : Word) (i : Instr), decode port op a0 a1 = .ok i →
    i.port = port ∧ (encode i).1 = op ∧ (usesA0 i = true → (encode i).2.1 = a0) ∧
      (usesA1 i = true → (encode i).2.2 = a1)

/-- A CMD_OP word is refused as an illegal opcode exactly for OPCODE 0x08 to 0xFF, and as a reserved field
exactly for a legal opcode with a non-zero must-be-0 field; a RENDER_CTRL word exactly for a non-zero upper
half; a PROBE_PHASE word never (30_encoding.md R70 (a) to (c)). -/
def Obligations.IllegalAndReservedWordsRefused : Prop :=
  ∀ op a0 a1 : Word,
    (decode .cmdOp op a0 a1 = .error .illegalOpcode ↔ 7 < (op.extractLsb' 0 8).toNat) ∧
    (decode .cmdOp op a0 a1 = .error .reservedField ↔
      (op.extractLsb' 0 8).toNat ≤ 7 ∧
        (op.extractLsb' 24 8 ≠ 0 ∨
          ((op.extractLsb' 0 8).toNat ∈ [0, 1, 2, 6, 7] ∧ op.extractLsb' 8 16 ≠ 0) ∨
          ((op.extractLsb' 0 8).toNat ∈ [4, 5] ∧ op.extractLsb' 16 8 ≠ 0) ∨
          ((op.extractLsb' 0 8).toNat = 3 ∧ a0.extractLsb' 16 16 ≠ 0) ∨
          ((op.extractLsb' 0 8).toNat = 7 ∧ (a0.extractLsb' 25 7 ≠ 0 ∨ a1.extractLsb' 25 7 ≠ 0)))) ∧
    ((∃ e, decode .renderCtrl op a0 a1 = .error e) ↔ op.extractLsb' 16 16 ≠ 0) ∧
    (∃ i, decode .probePhase op a0 a1 = .ok i)

/-- Words of 30_encoding.md R73 and 95_test_vectors.md decode to the instructions they stand for. -/
def Obligations.KnownWordsDecode : Prop :=
  decode .cmdOp 0x007F0003 0x00000045 0x028DDFB9 = .ok (.activate 0 69 127 0x028DDFB9) ∧
    decode .cmdOp 0x00000007 0x00800000 0x00400000 = .ok (.setEnv 0x800000 0x400000) ∧
    decode .cmdOp 0x00000104 0 0 = .ok (.release 1) ∧
    decode .renderCtrl 0x00001000 0 0 = .ok (.render 4096) ∧
    decode .probePhase 0xE0000000 0 0 = .ok (.probe 0xE0000000)

/-! ### The step and the instruction writes -/

/-- When the next input is a full write to an instruction register and its words decode to an instruction,
the step is that instruction's meaning, with the input taken and the response OKAY (20_memory.md R60,
30_encoding.md R66). That the inputs still to come and the last response stand in State is the model's choice
(logs 2 and 6). -/
def Obligations.StepRunsDecodedInstruction : Prop :=
  ∀ (s : State) (port : Port) (d : Word) (rest : List Input) (i : Instr),
    s.inputs = fullWrite (portOffset port) d :: rest → decode port d s.cmdArg0 s.cmdArg1 = .ok i →
      step s = exec i { s with inputs := rest, resp := .writeOkay }

/-- A write to CMD_OP does exactly what 60_exceptions.md R105 says, for every op word and every content of
the argument latches: the checks in their order, the push, CTL_TABLE_SIZE, the warning. The inputs still to
come and the last response stand in State by the model's choice (logs 2 and 6). -/
def Obligations.CmdOpWriteFollowsPushRules : Prop :=
  ∀ (s : State) (op : Word) (rest : List Input), s.inputs = fullWrite 0x0048 op :: rest →
    step s = .next (Spec.cmdOpWrite op { s with inputs := rest, resp := .writeOkay })

/-- A write to RENDER_CTRL does exactly what 42_render.md R89 says, for every data word. The input list and the
response are the model's own fields (logs 2 and 6). -/
def Obligations.RenderCtrlWriteFollowsRules : Prop :=
  ∀ (s : State) (d : Word) (rest : List Input), s.inputs = fullWrite 0x0050 d :: rest →
    step s = .next (Spec.renderCtrlWrite d { s with inputs := rest, resp := .writeOkay })

/-- A write to PROBE_PHASE does exactly what 40_table.md R79 says. The input list and the response are the
model's own fields (logs 2 and 6). -/
def Obligations.ProbePhaseWriteFollowsRules : Prop :=
  ∀ (s : State) (w : Word) (rest : List Input), s.inputs = fullWrite 0x0060 w :: rest →
    step s = .next (Spec.probePhaseWrite w { s with inputs := rest, resp := .writeOkay })

/-- The codes have the numbers of 60_exceptions.md R104 and the ERROR bits of 10_state.md R34. Recording a code
c != 0 puts it into the port's result register, sets ERROR bit c-1 and ERROR_IRQ, and changes nothing else;
rejecting with c does that and no more (R106). -/
def Obligations.RecordSetsCodeErrorBitAndIrq : Prop :=
  (codeNum .ok = 0 ∧ codeByte .ok = 0 ∧ ∀ c : Code, c ≠ .ok → ∃ e ∈ Spec.codes, e.1 = c) ∧
  (∀ e ∈ Spec.codes, codeNum e.1 = e.2.1 ∧ codeByte e.1 = BitVec.ofNat 8 e.2.1 ∧ errorBit e.1 = e.2.2) ∧
  ∀ (s : State) (c : Code), c ≠ .ok →
    record .cmdOp c s =
      { s with
        cmdResult := BitVec.ofNat 8 (codeNum c)
        error := s.error ||| BitVec.ofNat 11 (2 ^ (codeNum c - 1))
        irqStatus := s.irqStatus ||| 2 } ∧
    record .renderCtrl c s =
      { s with
        renderResult := BitVec.ofNat 8 (codeNum c)
        error := s.error ||| BitVec.ofNat 11 (2 ^ (codeNum c - 1))
        irqStatus := s.irqStatus ||| 2 } ∧
    record .probePhase c s =
      { s with
        probeStatus := BitVec.ofNat 8 (codeNum c)
        error := s.error ||| BitVec.ofNat 11 (2 ^ (codeNum c - 1))
        irqStatus := s.irqStatus ||| 2 } ∧
    ∀ p : Port, reject p c s = record p c s

/-- Whatever the instruction, a result code other than 0 and other than the warning 3 means that the access
did nothing but record that code (60_exceptions.md R110). -/
def Obligations.RejectedInstructionOnlyRecords : Prop :=
  ∀ (i : Instr) (s t : State), exec i s = .next t →
    Spec.resultOf i.port t ≠ 0 → Spec.resultOf i.port t ≠ 3 →
      ∃ c, c ≠ .ok ∧ Spec.resultOf i.port t = codeByte c ∧ t = record i.port c s

/-! ### Each instruction completes

A command's meaning is its push; its apply is part of the next accepted RENDER (log 10). -/

/-- An instruction with legal operands is accepted when no block renders, the queue has room and a WRSAMPLE's
index lies below CTL_TABLE_SIZE: the port's result is OK, or the warning UNINITIALIZED_TABLE, and that only
for an ACTIVATE while CTL_TABLE_SIZE is 0 (60_exceptions.md R104, R105). -/
def Obligations.WellFormedInstructionIsAccepted : Prop :=
  ∀ (i : Instr) (s : State), i.WellFormed s.params → s.busy = false →
    s.queue.length ≠ s.params.cmdqDepth →
    (∀ idx w, i = .wrsample idx w → idx.toNat < s.ctlTableSize.toNat) →
      ∃ t, exec i s = .next t ∧
        (Spec.resultOf i.port t = 0 ∨
          (Spec.resultOf i.port t = 3 ∧ s.ctlTableSize = 0 ∧
            ∃ slot note vel inc, i = .activate slot note vel inc))

/-- NOP with room in the queue is queued and answers OK; nothing else changes (42_render.md R87). That an
ignored argument word is queued as the latch holds it is the model's inference (log 9). -/
def Obligations.NopIsQueued : Prop :=
  ∀ s : State, s.queue.length ≠ s.params.cmdqDepth →
    exec .nop s = .next { s with
      queue := s.queue ++ [{ opcode := 0, slot := 0, vel := 0, arg0 := s.cmdArg0, arg1 := s.cmdArg1 }]
      cmdResult := 0 }

/-- CONFIGURE n with 1 <= n <= TABLE_MAX and room in the queue is queued, answers OK and sets
CTL_TABLE_SIZE; nothing else changes (40_table.md R75). That an
ignored argument word is queued as the latch holds it is the model's inference (log 9). -/
def Obligations.ConfigureIsQueued : Prop :=
  ∀ (s : State) (n : Word), n ≠ 0 → n.toNat ≤ s.params.tableMax → s.queue.length ≠ s.params.cmdqDepth →
    exec (.configure n) s = .next { s with
      queue := s.queue ++ [{ opcode := 1, slot := 0, vel := 0, arg0 := n, arg1 := s.cmdArg1 }]
      cmdResult := 0
      ctlTableSize := n }

/-- WRSAMPLE with an index below CTL_TABLE_SIZE and room in the queue is queued and answers OK; nothing else
changes (40_table.md R76). -/
def Obligations.WrsampleIsQueued : Prop :=
  ∀ (s : State) (i w : Word), i.toNat < s.ctlTableSize.toNat → s.queue.length ≠ s.params.cmdqDepth →
    exec (.wrsample i w) s = .next { s with
      queue := s.queue ++ [{ opcode := 2, slot := 0, vel := 0, arg0 := i, arg1 := w }]
      cmdResult := 0 }

/-- ACTIVATE of an existing slot with a non-zero increment and room in the queue is queued. It answers OK, or,
when CTL_TABLE_SIZE is 0, the warning UNINITIALIZED_TABLE with its ERROR bit and ERROR_IRQ; nothing else
changes (41_voice.md R80, 60_exceptions.md R105). -/
def Obligations.ActivateIsQueued : Prop :=
  ∀ (s : State) (slot : Byte) (note : BitVec 16) (vel : Byte) (inc : Word),
    slot.toNat < s.params.numVoices → inc ≠ 0 → s.queue.length ≠ s.params.cmdqDepth →
      exec (.activate slot note vel inc) s = .next
        (let queued : State := { s with
          queue := s.queue ++
            [{ opcode := 3, slot := slot, vel := vel, arg0 := note.zeroExtend 32, arg1 := inc }] }
        if s.ctlTableSize = 0 then
          { queued with cmdResult := 3, error := s.error ||| 4, irqStatus := s.irqStatus ||| 2 }
        else { queued with cmdResult := 0 })

/-- RELEASE and SILENCE of an existing slot with room in the queue are queued and answer OK; nothing else
changes (41_voice.md R81, R82). That an
ignored argument word is queued as the latch holds it is the model's inference (log 9). -/
def Obligations.ReleaseAndSilenceAreQueued : Prop :=
  ∀ (s : State) (slot : Byte), slot.toNat < s.params.numVoices → s.queue.length ≠ s.params.cmdqDepth →
    exec (.release slot) s = .next { s with
      queue := s.queue ++ [{ opcode := 4, slot := slot, vel := 0, arg0 := s.cmdArg0, arg1 := s.cmdArg1 }]
      cmdResult := 0 } ∧
    exec (.silence slot) s = .next { s with
      queue := s.queue ++ [{ opcode := 5, slot := slot, vel := 0, arg0 := s.cmdArg0, arg1 := s.cmdArg1 }]
      cmdResult := 0 }

/-- RESET_ALL with room in the queue is queued and answers OK; nothing else changes (42_render.md R88). That an
ignored argument word is queued as the latch holds it is the model's inference (log 9). -/
def Obligations.ResetAllIsQueued : Prop :=
  ∀ s : State, s.queue.length ≠ s.params.cmdqDepth →
    exec .resetAll s = .next { s with
      queue := s.queue ++ [{ opcode := 6, slot := 0, vel := 0, arg0 := s.cmdArg0, arg1 := s.cmdArg1 }]
      cmdResult := 0 }

/-- SET_ENV with both steps in 1 to 2^24 and room in the queue is queued and answers OK; nothing else changes
(41_voice.md R83). -/
def Obligations.SetEnvIsQueued : Prop :=
  ∀ (s : State) (a r : BitVec 25), a ≠ 0 → a.toNat ≤ 2 ^ 24 → r ≠ 0 → r.toNat ≤ 2 ^ 24 →
    s.queue.length ≠ s.params.cmdqDepth →
      exec (.setEnv a r) s = .next { s with
        queue := s.queue ++
          [{ opcode := 7, slot := 0, vel := 0, arg0 := a.zeroExtend 32, arg1 := r.zeroExtend 32 }]
        cmdResult := 0 }

/-- RENDER n while no block renders, with n <= OUTBUF_FRAMES, applies the queue and starts a block of n
frames; n = 0 completes at once with DONE and DONE_IRQ. A legal frame count fits LAST_BLOCK_FRAMES (42_render.md
R89, 00_scope.md R7). -/
def Obligations.RenderStartsBlock : Prop :=
  ∀ (s : State) (n : BitVec 16), s.params.Legal → s.busy = false → n.toNat ≤ s.params.outbufFrames →
    (BitVec.ofNat 13 n.toNat).toNat = n.toNat ∧
    exec (.render n) s = .next
      (if n = 0 then
        { applyAll s with
          lastBlockFrames := 0
          frameIdx := 0
          done := true
          renderResult := 0
          irqStatus := s.irqStatus ||| 1 }
      else
        { applyAll s with
          lastBlockFrames := BitVec.ofNat 13 n.toNat
          frameIdx := 0
          done := false
          renderResult := 0
          busy := true })

/-- PROBE while no block renders stores the phase and the lookup's word and answers OK; nothing else changes
(40_table.md R79). -/
def Obligations.ProbeLooksUpTable : Prop :=
  ∀ (s : State) (p : Word), s.busy = false →
    exec (.probe p) s =
      .next { s with probePhase := p, probeResult := (s.lookup p).word, probeStatus := 0 }

/-! ### Applying the queue -/

/-- Applied NOP changes nothing. Applied RESET_ALL makes every voice Idle at level 0, keeps its other fields
and changes nothing else. Applied CONFIGURE sets TABLE_SIZE, makes every table word 0 and leaves the
output buffer and every other field. Applied WRSAMPLE writes exactly one table word. Applied SET_ENV sets the
two steps (42_render.md R87, R88, 40_table.md R75, R76, 41_voice.md R83). R75 fills the words 0 to n-1 with
zero; that the words above them, which no rule reads, read 0 as well is the model's choice (log 5). -/
def Obligations.AppliedBankAndTableCommands : Prop :=
  ∀ (s : State) (e : QEntry),
    (e.opcode = 0 → applyEntry s e = s) ∧
    (e.opcode = 1 → ∃ m, applyEntry s e = { s with tableSize := e.arg0, mem := m } ∧
      m.outbuf = s.mem.outbuf ∧ ∀ i, m.readTable i = 0) ∧
    (e.opcode = 2 → ∃ m, applyEntry s e = { s with mem := m } ∧ m.outbuf = s.mem.outbuf ∧
      m.readTable e.arg0.toNat = e.arg1 ∧ ∀ i, i ≠ e.arg0.toNat → m.readTable i = s.mem.readTable i) ∧
    (e.opcode = 6 → ∃ vs, applyEntry s e = { s with voices := vs } ∧ vs.length = s.voices.length ∧
      ∀ (n : ℕ) (x : Voice), s.voices[n]? = some x → vs[n]? = some { x with stage := .idle, env := 0 }) ∧
    (e.opcode = 7 → applyEntry s e =
      { s with attackStep := e.arg0.extractLsb' 0 25, releaseStep := e.arg1.extractLsb' 0 25 })

/-- Applied ACTIVATE, RELEASE and SILENCE change the one voice they name, as 41_voice.md R80, R81 and R82
say; every other voice and every other field is unchanged. -/
def Obligations.AppliedVoiceCommands : Prop :=
  ∀ (s : State) (e : QEntry) (v : Voice), s.voices[e.slot.toNat]? = some v →
    (e.opcode = 3 → applyEntry s e = 
      { s with voices := (s.voices.set e.slot.toNat
        { v with
          note := e.arg0.extractLsb' 0 16
          vel := e.vel
          inc := e.arg1
          phase := 0
          stage := .attack }) }) ∧
    (e.opcode = 4 → applyEntry s e =
      if v.stage = .attack ∨ v.stage = .sustain then
        { s with voices := s.voices.set e.slot.toNat { v with stage := .release } }
      else s) ∧
    (e.opcode = 5 → applyEntry s e =
      { s with voices := s.voices.set e.slot.toNat { v with stage := .idle, env := 0 } })

/-- ApplyAll pops and applies head first until the queue is empty (42_render.md R90). -/
def Obligations.ApplyAllPopsHeadFirst : Prop :=
  (∀ s : State, s.queue = [] → applyAll s = s) ∧
    ∀ (s : State) (e : QEntry) (q : List QEntry), s.queue = e :: q →
      applyAll s = applyAll (applyEntry { s with queue := q } e)

/-! ### Frames and blocks -/

/-- The engine's turn does nothing while BUSY = 0. While BUSY = 1 it writes the rounded exact sum of the
non-Idle voices' words to outbuf[FRAME_IDX] and to no other entry, replaces every non-Idle voice by what
VoiceSample leaves, counts the frame, and ends the block after its last frame (42_render.md R91, R92). The
premise VoicesOk holds in every reachable state (10_state.md R21). -/
def Obligations.FrameStepFollowsRules : Prop :=
  ∀ s : State, VoicesOk s →
    (s.busy = false → frameStep s = s) ∧
    (s.busy = true → ∃ m,
      m.table = s.mem.table ∧
      m.readOutbuf s.frameIdx.toNat = some (Spec.rne32 (Spec.frameSum s)) ∧
      (∀ k, k ≠ s.frameIdx.toNat → m.readOutbuf k = s.mem.readOutbuf k) ∧
      frameStep s =
        (let t := { s with
          voices := s.voices.map (fun v => if v.stage = .idle then v else (s.voiceSample v).1)
          mem := m
          frameCount := s.frameCount + 1
          frameIdx := s.frameIdx + 1 }
        if s.frameIdx + 1 = s.lastBlockFrames then
          { t with busy := false, done := true, irqStatus := s.irqStatus ||| 1 }
        else t))

/-- Whatever bus accesses fall between a running block's frames, the voices, the published table, the
envelope steps, the output buffer and the sequencer are what the frames alone make of them (42_render.md R91:
"Nothing a bus access can do while BUSY = 1 changes the voices, the table or the envelope steps"). The
input list is the model's own (log 2). -/
def Obligations.BusTrafficCannotDisturbBlock : Prop :=
  ∀ (s t : State) (xs : List Input), SequencerOk s → s.busy = true → (∀ i ∈ xs, i ≠ .reset) →
    Spec.frameTurns xs < s.lastBlockFrames.toNat - s.frameIdx.toNat → Spec.runInputs xs s = some t →
      Spec.renderView t = Spec.renderView (frameStep^[Spec.frameTurns xs] s)

/-- After k frames in which it was non-Idle, a voice's phase is phase0 + k * inc mod 2^32 (42_render.md R93
(a)). -/
def Obligations.PhaseAfterFrames : Prop :=
  ∀ (s : State) (n k : ℕ) (v : Voice), s.voices[n]? = some v →
    (∀ j < k, (frameStep^[j] s).busy = true ∧ (frameStep^[j] s).slotActive n = true) →
      ((frameStep^[k] s).voices[n]?).map (fun x => x.phase) = some (v.phase + BitVec.ofNat 32 k * v.inc)

/-- A block whose start applies RESET_ALL with no later ACTIVATE in its batch outputs only 0x00000000
(42_render.md R88, R93 (e)). -/
def Obligations.ResetAllSilencesNextBlock : Prop :=
  ∀ (s : State) (n : BitVec 16) (q1 q2 : List QEntry) (e : QEntry), s.params.Legal → s.busy = false →
    n.toNat ≤ s.params.outbufFrames → s.queue = q1 ++ e :: q2 → e.opcode = 6 →
    (∀ x ∈ q2, x.opcode ≠ 3) →
      ∃ t, exec (.render n) s = .next t ∧
        ∀ k ≤ n.toNat, ∀ j < k, (frameStep^[k] t).mem.readOutbuf j = some 0x00000000

/-! ### The envelope -/

/-- The transitions of a voice's stage and level under each event, for a voice as 10_state.md R21 says
(41_voice.md R86). -/
def Obligations.StageTransitions : Prop :=
  ∀ (s : State) (v : Voice) (note : BitVec 16) (vel : Byte) (inc : Word) (a r : BitVec 25),
    v.Ok → StepOk a → StepOk r →
      ((v.activate note vel inc).stage = .attack ∧ (v.activate note vel inc).env = v.env ∧
        (v.stage = .idle → (v.activate note vel inc).env = 0)) ∧
      (v.stage = .attack ∨ v.stage = .sustain → v.release = { v with stage := .release }) ∧
      (v.stage = .idle ∨ v.stage = .release → v.release = v) ∧
      (v.silence.stage = .idle ∧ v.silence.env = 0) ∧
      (∀ x ∈ (applyResetAll s).voices, x.stage = .idle ∧ x.env = 0) ∧
      (∀ x ∈ (resetStep s).voices, x.stage = .idle ∧ x.env = 0) ∧
      ((v.envStep a r).stage, (v.envStep a r).env.toNat) =
        Spec.envStep a.toNat r.toNat (v.stage, v.env.toNat) ∧
      (v.stage = .attack →
        (v.envStep a r).stage = .attack ∨
          ((v.envStep a r).stage = .sustain ∧ (v.envStep a r).env.toNat = 2 ^ 24)) ∧
      (v.stage = .release →
        (v.envStep a r).stage = .release ∨ ((v.envStep a r).stage = .idle ∧ (v.envStep a r).env = 0))

/-- An attack from level E reaches Sustain at full level after exactly max(1, ceil((2^24 - E) / ATTACK_STEP))
steps and stays in Attack before (41_voice.md R85). -/
def Obligations.AttackDuration : Prop :=
  ∀ (v : Voice) (a r : BitVec 25), v.stage = .attack → v.env.toNat ≤ 2 ^ 24 → StepOk a →
    let n := max 1 ((2 ^ 24 - v.env.toNat + a.toNat - 1) / a.toNat)
    (∀ k < n, ((Voice.envStep a r)^[k] v).stage = .attack) ∧
      ((Voice.envStep a r)^[n] v).stage = .sustain ∧ ((Voice.envStep a r)^[n] v).env.toNat = 2 ^ 24

/-- A release from level E reaches Idle at level 0 after exactly max(1, ceil(E / RELEASE_STEP)) steps, its
level strictly falling until it is 0 (41_voice.md R85, R81). -/
def Obligations.ReleaseDuration : Prop :=
  ∀ (v : Voice) (a r : BitVec 25), v.stage = .release → StepOk r →
    let n := max 1 ((v.env.toNat + r.toNat - 1) / r.toNat)
    (∀ k < n, ((Voice.envStep a r)^[k] v).stage = .release ∧
      (0 < ((Voice.envStep a r)^[k] v).env.toNat →
        ((Voice.envStep a r)^[k + 1] v).env.toNat < ((Voice.envStep a r)^[k] v).env.toNat)) ∧
      ((Voice.envStep a r)^[n] v).stage = .idle ∧ ((Voice.envStep a r)^[n] v).env = 0

/-! ### binary32, lookup, gain, mix -/

/-- The model's integer decoding is f32val of 00_scope.md R11: a finite word's value is its number of units
of 2^-149; isFinite is e != 255; both zero words have value 0. -/
def Obligations.WordValueIsBinary32 : Prop :=
  (∀ w : Word, (isFinite w = true ↔ (w.extractLsb' 23 8).toNat ≠ 255) ∧
    (isFinite w = true → (f32units w : ℚ) / 2 ^ 149 = Spec.f32val w)) ∧
  f32units 0x00000000 = 0 ∧ f32units 0x80000000 = 0

/-- The model's rounding of a quotient is RNE32 of 00_scope.md R12, for every quotient. -/
def Obligations.RoundingIsRNE32 : Prop :=
  ∀ (n : ℤ) (d : ℕ), 0 < d → rne32 n d = Spec.rne32 ((n : ℚ) / (d : ℚ))

/-- Rounding the value of a finite word gives the word back, -0.0 becoming +0.0 (00_scope.md R11, R12). -/
def Obligations.RoundingFixesFiniteWords : Prop :=
  ∀ w : Word, isFinite w = true →
    rne32 (f32units w) f32one = if w = 0x80000000 then 0x00000000 else w

/-- Lookup(p) line by line, over rationals; the word of a NONFINITE lookup is 0x7FC00000 (40_table.md R77). -/
def Obligations.LookupFollowsRules : Prop :=
  LookupResult.nonfinite.word = 0x7FC00000 ∧ (∀ w, (LookupResult.finite w).word = w) ∧
  ∀ (s : State) (p : Word),
    (s.tableSize = 0 → s.lookup p = .finite 0x00000000) ∧
    (s.tableSize ≠ 0 →
      let N := s.tableSize.toNat
      let X := p.toNat * N
      let w0 := s.mem.readTable (X >>> 32)
      let w1 := s.mem.readTable ((X >>> 32 + 1) % N)
      let f : ℚ := ((X % 2 ^ 32 : ℕ) : ℚ) / 2 ^ 32
      X >>> 32 < N ∧
        s.lookup p =
          if isFinite w0 = true ∧ isFinite w1 = true then
            .finite (Spec.rne32 ((1 - f) * Spec.f32val w0 + f * Spec.f32val w1))
          else .nonfinite)

/-- At a phase that is exactly i/N, between finite neighbours, the lookup is the stored word itself, -0.0
reading +0.0 (40_table.md R78 (b)). -/
def Obligations.LookupAtGridPoint : Prop :=
  ∀ (s : State) (p : Word) (i : ℕ), s.tableSize ≠ 0 → p.toNat * s.tableSize.toNat = i * 2 ^ 32 →
    isFinite (s.mem.readTable i) = true → isFinite (s.mem.readTable ((i + 1) % s.tableSize.toNat)) = true →
      s.lookup p = .finite
        (if s.mem.readTable i = 0x80000000 then 0x00000000 else s.mem.readTable i)

/-- At an exact midpoint between finite neighbours the lookup is their mean rounded once (40_table.md R78
(c)). -/
def Obligations.LookupAtMidpoint : Prop :=
  ∀ (s : State) (p : Word) (i : ℕ), s.tableSize ≠ 0 →
    p.toNat * s.tableSize.toNat = i * 2 ^ 32 + 2 ^ 31 → isFinite (s.mem.readTable i) = true →
    isFinite (s.mem.readTable ((i + 1) % s.tableSize.toNat)) = true →
      s.lookup p = .finite
        (Spec.rne32 ((Spec.f32val (s.mem.readTable i) +
          Spec.f32val (s.mem.readTable ((i + 1) % s.tableSize.toNat))) / 2))

/-- A FINITE lookup's word is finite: "the result never overflows" (40_table.md R77). -/
def Obligations.LookupResultIsFinite : Prop :=
  ∀ (s : State) (p w : Word), s.lookup p = .finite w → isFinite w = true

/-- VoiceSample(v) line by line, over rationals: the phase first, the gain at the level before this frame's
envelope step, +0.0 for a NONFINITE lookup, then EnvStep; note, velocity and increment are kept (41_voice.md
R84). -/
def Obligations.VoiceSampleFollowsRules : Prop :=
  ∀ (s : State) (v : Voice),
    (s.voiceSample v).1 = Voice.envStep s.attackStep s.releaseStep { v with phase := v.phase + v.inc } ∧
    ((s.voiceSample v).1.phase = v.phase + v.inc ∧ (s.voiceSample v).1.note = v.note ∧
      (s.voiceSample v).1.vel = v.vel ∧ (s.voiceSample v).1.inc = v.inc) ∧
    (s.lookup (v.phase + v.inc) = .nonfinite → (s.voiceSample v).2 = 0x00000000) ∧
    ∀ L, s.lookup (v.phase + v.inc) = .finite L →
      (s.voiceSample v).2 =
        Spec.rne32 (Spec.f32val L * (v.env.toNat : ℚ) * (v.vel.toNat : ℚ) / (2 ^ 24 * 255))

/-- "y is always finite and |f32val(y)| <= |f32val(L)|" for a level of at most 2^24 (41_voice.md R84). -/
def Obligations.VoiceWordIsFiniteAndBounded : Prop :=
  ∀ (s : State) (v : Voice), v.env.toNat ≤ 2 ^ 24 →
    isFinite (s.voiceSample v).2 = true ∧
      ∀ L, s.lookup (v.phase + v.inc) = .finite L → |Spec.f32val (s.voiceSample v).2| ≤ |Spec.f32val L|

/-- No output word of a frame is a NaN, an exact-zero sum gives 0x00000000, and with no non-Idle voice the
frame is 0x00000000 (42_render.md R92). -/
def Obligations.OutputIsNeverNaN : Prop :=
  (∀ acc : ℤ, ¬ (((mix acc).extractLsb' 23 8).toNat = 255 ∧ (mix acc).extractLsb' 0 23 ≠ 0)) ∧
    mix 0 = 0x00000000 ∧
    ∀ s : State, s.busy = true → (∀ v ∈ s.voices, v.stage = .idle) →
      (frameStep s).mem.readOutbuf s.frameIdx.toNat = some 0x00000000

/-! ### Registers and flags -/

/-- STATUS at offset 0x0010, bit by bit; a write to it has no effect; its value after reset (10_state.md
R40). -/
def Obligations.StatusWordBits : Prop :=
  (∀ (s : State) (d : Word), regAt s.params 0x0010 = some .status ∧ s.readReg .status = s.statusWord ∧
    portOf .status = none ∧ s.writeReg .status d = s) ∧
  (∀ s : State,
    (s.statusWord.getLsbD 0 = s.busy ∧ s.statusWord.getLsbD 1 = s.done ∧
      s.statusWord.getLsbD 2 = decide (s.tableSize ≠ 0) ∧
      s.statusWord.getLsbD 3 = decide (s.queue.length = 0) ∧
      s.statusWord.getLsbD 4 = decide (s.queue.length = s.params.cmdqDepth)) ∧
    ∀ n, 5 ≤ n → s.statusWord.getLsbD n = false) ∧
  ∀ p : Params, p.Legal → (State.resetWith p).statusWord = 0x00000008

/-- Bit b of ACTIVE_MASKj is 1 iff slot 32j + b exists and is non-Idle; all eight words are mapped for every
P; a write to one has no effect; all are 0 after reset (10_state.md R47). -/
def Obligations.ActiveMaskBits : Prop :=
  (∀ (s : State) (j b : ℕ), s.voices.length = s.params.numVoices → b < 32 →
    ((s.readReg (.activeMask j)).getLsbD b = true ↔
      32 * j + b < s.params.numVoices ∧ ∃ v, s.voices[32 * j + b]? = some v ∧ v.stage ≠ .idle)) ∧
  (∀ (p : Params) (j : ℕ), j < 8 → regAt p (0x0080 + 4 * j) = some (.activeMask j)) ∧
  (∀ (s : State) (j : ℕ) (d : Word), portOf (.activeMask j) = none ∧ s.writeReg (.activeMask j) d = s) ∧
  ∀ (p : Params) (j : ℕ), (State.resetWith p).readReg (.activeMask j) = 0

/-- A write to ERROR or IRQ_STATUS clears exactly the bits written 1 and changes nothing else; the upper bits
read 0; recording code c sets ERROR bit c-1 and leaves the other ERROR bits (10_state.md R34, R35). The bus
writes to 0x0014 and 0x0020 do this and nothing else, and so CLEARERR clears every ERROR bit and ERROR_IRQ and
leaves DONE_IRQ (60_exceptions.md R111, 30_encoding.md R74). The input list and the response are the model's
own fields (logs 2 and 6). -/
def Obligations.ErrorAndIrqAreWriteOneToClear : Prop :=
  ∀ (s : State) (d : Word),
    (∀ rest, s.inputs = fullWrite 0x0014 d :: rest →
      ∃ e, step s = .next { s with inputs := rest, resp := .writeOkay, error := e } ∧
        ∀ k < 11, e.getLsbD k = (s.error.getLsbD k && !d.getLsbD k)) ∧
    (∀ rest, s.inputs = fullWrite 0x0020 d :: rest →
      ∃ q, step s = .next { s with inputs := rest, resp := .writeOkay, irqStatus := q } ∧
        ∀ k < 2, q.getLsbD k = (s.irqStatus.getLsbD k && !d.getLsbD k)) ∧
    (∃ q, Spec.runInputs asmClearErr s = some { s with resp := .writeOkay, error := 0, irqStatus := q } ∧
      q.getLsbD 0 = s.irqStatus.getLsbD 0 ∧ q.getLsbD 1 = false) ∧
    (∃ e, s.writeReg .error d = { s with error := e } ∧
      ∀ k < 11, e.getLsbD k = (s.error.getLsbD k && !d.getLsbD k)) ∧
    (∃ q, s.writeReg .irqStatus d = { s with irqStatus := q } ∧
      ∀ k < 2, q.getLsbD k = (s.irqStatus.getLsbD k && !d.getLsbD k)) ∧
    (∀ k, 11 ≤ k → (s.readReg .error).getLsbD k = false) ∧
    (∀ k, 2 ≤ k → (s.readReg .irqStatus).getLsbD k = false) ∧
    ∀ (p : Port) (c : Code), c ≠ .ok → ∀ k < 11,
      (record p c s).error.getLsbD k = (s.error.getLsbD k || decide (k = codeNum c - 1))

/-- The interrupt output is 1 iff a pending source is enabled; a masked source drives nothing (60_exceptions.md
R109). -/
def Obligations.IrqIsEnabledPendingSource : Prop :=
  ∀ s : State,
    (s.irq = true ↔ (s.irqStatus.getLsbD 0 = true ∧ s.irqEnable.getLsbD 0 = true) ∨
      (s.irqStatus.getLsbD 1 = true ∧ s.irqEnable.getLsbD 1 = true)) ∧
    (s.irqEnable = 0 → s.irq = false)

/-- Every register of 20_memory.md R53 stands at its offset: the fixed rows, ACTIVE_MASK, the voice windows
(10_state.md R48) and the OUTBUF window; the unmapped ranges R53 lists are unmapped, and so is every offset
that is no multiple of 4. -/
def Obligations.RegisterMapWindows : Prop :=
  ∀ p : Params, p.Legal →
    (regAt p 0x0000 = some .id ∧ regAt p 0x0004 = some .caps0 ∧ regAt p 0x0008 = some .caps1 ∧
      regAt p 0x000C = some .caps2 ∧ regAt p 0x0010 = some .status ∧ regAt p 0x0014 = some .error ∧
      regAt p 0x0018 = some .cmdResult ∧ regAt p 0x001C = some .cmdqLevel ∧
      regAt p 0x0020 = some .irqStatus ∧ regAt p 0x0024 = some .irqEnable ∧
      regAt p 0x0028 = some .frameCountLo ∧ regAt p 0x002C = some .frameCountHi ∧
      regAt p 0x0030 = some .tableSize ∧ regAt p 0x0034 = some .ctlTableSize ∧
      regAt p 0x0038 = some .attackStep ∧ regAt p 0x003C = some .releaseStep ∧
      regAt p 0x0040 = some .cmdArg0 ∧ regAt p 0x0044 = some .cmdArg1 ∧ regAt p 0x0048 = some .cmdOp ∧
      regAt p 0x0050 = some .renderCtrl ∧ regAt p 0x0054 = some .renderResult ∧
      regAt p 0x0058 = some .lastBlockFrames ∧ regAt p 0x005C = some .blockProgress ∧
      regAt p 0x0060 = some .probePhase ∧ regAt p 0x0064 = some .probeResult ∧
      regAt p 0x0068 = some .probeStatus) ∧
    (∀ j < 8, regAt p (0x0080 + 4 * j) = some (.activeMask j)) ∧
    (∀ off, off % 4 ≠ 0 → regAt p off = none) ∧
    (∀ v < p.numVoices,
      regAt p (0x1000 + 0x20 * v) = some (.voice v .stage) ∧
      regAt p (0x1000 + 0x20 * v + 0x04) = some (.voice v .noteVel) ∧
      regAt p (0x1000 + 0x20 * v + 0x08) = some (.voice v .phase) ∧
      regAt p (0x1000 + 0x20 * v + 0x0C) = some (.voice v .inc) ∧
      regAt p (0x1000 + 0x20 * v + 0x10) = some (.voice v .env) ∧
      ∀ o, 0x14 ≤ o → o < 0x20 → regAt p (0x1000 + 0x20 * v + o) = none) ∧
    (∀ k < p.outbufFrames, regAt p (0x4000 + 4 * k) = some (.outbuf k)) ∧
    (∀ off, (off = 0x004C ∨ (0x006C ≤ off ∧ off ≤ 0x007C) ∨ (0x00A0 ≤ off ∧ off < 0x1000) ∨
        (0x1000 + 0x20 * p.numVoices ≤ off ∧ off < 0x4000) ∨
        (0x4000 + 4 * p.outbufFrames ≤ off)) → regAt p off = none)

/-- A read returns the register's value and changes nothing but the response; CMD_OP and RENDER_CTRL read 0.
A write to an argument latch stores the word, a write to IRQ_ENABLE its two low bits, a write to ERROR or
IRQ_STATUS clears the bits written 1, and a write to a read-only register has no effect (20_memory.md R57,
10_state.md R24, R34 to R36). What each register reads as is RegisterReadValues. The input list and the
response are the model's own fields (logs 2 and 6). -/
def Obligations.RegisterAccesses : Prop :=
  ∀ (s : State) (off : Offset) (r : Reg) (d : Word) (rest : List Input), off.toNat % 4 = 0 →
    regAt s.params off.toNat = some r →
      (s.inputs = .read off .bits32 :: rest →
        step s = .next { s with inputs := rest, resp := .readOkay (s.readReg r) } ∧
        (r = .cmdOp ∨ r = .renderCtrl → s.readReg r = 0)) ∧
      (s.inputs = fullWrite off d :: rest →
        (r = .cmdArg0 → step s = .next { s with inputs := rest, resp := .writeOkay, cmdArg0 := d }) ∧
        (r = .cmdArg1 → step s = .next { s with inputs := rest, resp := .writeOkay, cmdArg1 := d }) ∧
        (r = .irqEnable →
          step s = .next { s with inputs := rest, resp := .writeOkay, irqEnable := d.extractLsb' 0 2 }) ∧
        (r = .error →
          step s = .next
            { s with inputs := rest, resp := .writeOkay, error := s.error &&& ~~~(d.extractLsb' 0 11) }) ∧
        (r = .irqStatus →
          step s = .next
            { s with inputs := rest, resp := .writeOkay, irqStatus := s.irqStatus &&& ~~~(d.extractLsb' 0 2) }) ∧
        (r ∉ [Reg.error, .irqStatus, .irqEnable, .cmdArg0, .cmdArg1, .cmdOp, .renderCtrl, .probePhase] →
          step s = .next { s with inputs := rest, resp := .writeOkay }))

/-- What each register reads as, bits above a field reading 0 (10_state.md R24, R27, R29 to R37, R39, R41 to
R44, R46, R48). STATUS and ACTIVE_MASK are StatusWordBits and ActiveMaskBits; CMD_OP and RENDER_CTRL read 0
(R45). A register whose value is a count of the parameters or of the queue is stated for legal parameters
(00_scope.md R7) and a queue within CMDQ_DEPTH (R25). -/
def Obligations.RegisterReadValues : Prop :=
  ∀ s : State,
    (s.readReg .id = 0x574F5653 ∧
      (s.params.Legal →
        (s.readReg .caps0).toNat = s.params.numVoices + 2 ^ 16 * s.params.cmdqDepth ∧
        (s.readReg .caps1).toNat = s.params.tableMax ∧
        (s.readReg .caps2).toNat = s.params.outbufFrames) ∧
      (s.params.Legal → s.queue.length ≤ s.params.cmdqDepth →
        (s.readReg .cmdqLevel).toNat = s.queue.length)) ∧
    ((s.readReg .error).toNat = s.error.toNat ∧ (s.readReg .irqStatus).toNat = s.irqStatus.toNat ∧
      (s.readReg .irqEnable).toNat = s.irqEnable.toNat ∧
      (s.readReg .cmdResult).toNat = s.cmdResult.toNat ∧
      (s.readReg .renderResult).toNat = s.renderResult.toNat ∧
      (s.readReg .probeStatus).toNat = s.probeStatus.toNat) ∧
    (s.readReg .frameCountLo).toNat + 2 ^ 32 * (s.readReg .frameCountHi).toNat = s.frameCount.toNat ∧
    (s.readReg .tableSize = s.tableSize ∧ s.readReg .ctlTableSize = s.ctlTableSize ∧
      (s.readReg .attackStep).toNat = s.attackStep.toNat ∧
      (s.readReg .releaseStep).toNat = s.releaseStep.toNat) ∧
    (s.readReg .cmdArg0 = s.cmdArg0 ∧ s.readReg .cmdArg1 = s.cmdArg1 ∧ s.readReg .cmdOp = 0 ∧
      s.readReg .renderCtrl = 0) ∧
    ((s.readReg .lastBlockFrames).toNat = s.lastBlockFrames.toNat ∧
      (s.readReg .blockProgress).toNat = s.frameIdx.toNat) ∧
    (s.readReg .probePhase = s.probePhase ∧ s.readReg .probeResult = s.probeResult) ∧
    (∀ (n : ℕ) (v : Voice), s.voices[n]? = some v →
      (s.readReg (.voice n .stage) =
        match v.stage with
        | .idle => 0
        | .attack => 1
        | .sustain => 2
        | .release => 3) ∧
      (s.readReg (.voice n .noteVel)).toNat = v.note.toNat + 2 ^ 16 * v.vel.toNat ∧
      s.readReg (.voice n .phase) = v.phase ∧ s.readReg (.voice n .inc) = v.inc ∧
      (s.readReg (.voice n .env)).toNat = v.env.toNat) ∧
    ∀ (k : ℕ) (w : Word), s.mem.readOutbuf k = some w → s.readReg (.outbuf k) = w

/-- A step faults exactly when the next input is an access 20_memory.md R55 does not admit (a misaligned
offset, a size other than 32 bits, a disabled lane, an unmapped offset), and no step is refused. Every other
step answers a next state. R56 asks a model to take a bus error as a fault (log 3);
the input list is the model's own (log 2). -/
def Obligations.StepFaultsExactlyOnUnadmittedAccess : Prop :=
  ∀ s : State,
    ((∃ f, step s = .fault f) ↔
      ∃ rest off size, off.toNat % 4 ≠ 0 ∧
          (s.inputs = .read off size :: rest ∨ ∃ lanes d, s.inputs = .write off size lanes d :: rest) ∨
        size ≠ .bits32 ∧
          (s.inputs = .read off size :: rest ∨ ∃ lanes d, s.inputs = .write off size lanes d :: rest) ∨
        (∃ lanes d, lanes ≠ 0xF ∧ s.inputs = .write off size lanes d :: rest) ∨
        regAt s.params off.toNat = none ∧
          (s.inputs = .read off size :: rest ∨ ∃ lanes d, s.inputs = .write off size lanes d :: rest)) ∧
    (¬ ∃ q, step s = .refused q) ∧
    ((∃ t, step s = .next t) ∨ ∃ f, step s = .fault f)

/-! ### Reset -/

/-- The reset input puts every state element at its value of 10_state.md R50; the interrupt output is 0
(70_reset_and_hazards.md R120). That the parameters and the inputs still to come stand in State, and that a
reset keeps them, is the model's (logs 1, 2 and 16). The table words and output buffer entries, which the spec
leaves unspecified, and the model's own fields `resp` and `epoch` are left open here. -/
def Obligations.ResetStepRestoresEveryElement : Prop :=
  ∀ (s : State) (rest : List Input), s.inputs = .reset :: rest →
    ∃ mem resp epoch t, step s = .next t ∧ t.irq = false ∧ t =
      { params := s.params
        voices := List.replicate s.params.numVoices
          { stage := .idle, note := 0, vel := 0, phase := 0, inc := 0, env := 0 }
        tableSize := 0
        mem := mem
        attackStep := 0x00040000
        releaseStep := 0x00001000
        cmdArg0 := 0
        cmdArg1 := 0
        cmdResult := 0
        queue := []
        ctlTableSize := 0
        busy := false
        done := false
        frameIdx := 0
        lastBlockFrames := 0
        renderResult := 0
        probePhase := 0
        probeResult := 0
        probeStatus := 0
        error := 0
        irqStatus := 0
        irqEnable := 0
        frameCount := 0
        inputs := rest
        resp := resp
        epoch := epoch }

/-! ### Invariants -/

/-- The state after reset, for any legal parameters, satisfies every invariant (10_state.md R21, R23, R28, R50).
That the word stores are canonical, and that the table's is empty at reset, where R22 leaves the words
unspecified, is the model's choice (logs 5 and 7). -/
def Obligations.ResetSatisfiesInvariant : Prop :=
  ∀ p : Params, p.Legal → Inv (State.resetWith p)

/-- Every step keeps 10_state.md R21 (a) to (e) and the legal envelope steps (R23), given that the queue holds
validated commands, which every step keeps too (StepKeepsQueueValidated). -/
def Obligations.StepKeepsVoiceInvariants : Prop :=
  ∀ s t : State, VoicesOk s → QueueOk s → step s = .next t →
    VoicesOk t ∧ t.voices.countP Voice.active ≤ t.params.numVoices

/-- Every step keeps the queue within CMDQ_DEPTH and its commands validated (10_state.md R25, 60_exceptions.md
R105). -/
def Obligations.StepKeepsQueueValidated : Prop :=
  ∀ s t : State, QueueOk s → step s = .next t → QueueOk t

/-- Every step keeps CTL_TABLE_SIZE equal to the table size the queue will leave, and every queued index
within it (10_state.md R26, 40_table.md R76). -/
def Obligations.StepKeepsTableSizes : Prop :=
  ∀ s t : State, QueueOk s → TableSizesOk s → step s = .next t → TableSizesOk t

/-- Every step keeps "BUSY == 1 iff FRAME_IDX < LAST_BLOCK_FRAMES" (10_state.md R28). -/
def Obligations.StepKeepsSequencer : Prop :=
  ∀ s t : State, s.params.Legal → SequencerOk s → step s = .next t → SequencerOk t

/-- Every step keeps the word stores in canonical form, which is the model's own convention (logs 5 and 7). -/
def Obligations.StepKeepsStoresCanonical : Prop :=
  ∀ s t : State, s.mem.wf = true → step s = .next t → t.mem.wf = true

/-- Every step keeps every invariant of the machine (10_state.md R21 to R29, 60_exceptions.md R104). Among them
the canonical form of the word stores, and the bound of the table's list by TABLE_SIZE, are the model's own
(logs 5 and 7). -/
def Obligations.StepKeepsInvariant : Prop :=
  ∀ s t : State, Inv s → step s = .next t → Inv t

/-- The published table and the envelope steps change only at an accepted RENDER_CTRL write or at reset; the
voices only there and in a frame step; the output buffer only in a frame step and at reset; the parameters
never (10_state.md R22, R23, R20, 20_memory.md R61). The
input list and the list form of the stores are the model's own (logs 2 and 7). -/
def Obligations.AppliedStateChangesOnlyAtBlockStart : Prop :=
  ∀ s t : State, step s = .next t →
    ((t.tableSize ≠ s.tableSize ∨ t.mem.table ≠ s.mem.table ∨ t.attackStep ≠ s.attackStep ∨
        t.releaseStep ≠ s.releaseStep) → Spec.acceptsRender s ∨ Spec.takesReset s) ∧
    (t.voices ≠ s.voices → Spec.acceptsRender s ∨ Spec.takesReset s ∨ Spec.takesFrame s) ∧
    (t.mem.outbuf ≠ s.mem.outbuf → Spec.takesReset s ∨ Spec.takesFrame s) ∧
    t.params = s.params

/-! ### The firmware contract -/

/-- A note event leaves at most one mapping per note, and names only slots the block has, when the firmware's
mappings do (45_firmware_boundary.md R94 (a), R97, R99); it never pushes beyond the queue's room (R102). The
firmware is outside the block and stands beside the machine as functions (log 18). -/
def Obligations.FirmwareKeepsOneMappingPerNote : Prop :=
  ∀ (p : Params) (v : FirmwareView) (note : BitVec 16) (vel : Byte) (inc : Word) (fw fw' : Firmware)
    (cmds : List Instr), p.Legal → (fw.map.map Prod.fst).Nodup → (∀ e ∈ fw.map, e.2 < p.numVoices) →
    (startNote p v note vel inc fw = .pushes cmds fw' ∨ noteOff p v note fw = .pushes cmds fw') →
      (fw'.map.map Prod.fst).Nodup ∧ (∀ e ∈ fw'.map, e.2 < p.numVoices) ∧
        v.level + cmds.length ≤ max v.level p.cmdqDepth

/-- The firmware's conversions round once, to the nearest and a tie to the even. For a sample rate above 0 the
increment of an explicit frequency is round_half_even(freq * 2^32 / sr) mod 2^32; the increment of a note is
m mod 2^32 for the integer m nearest x = 440 * 2^32 * 2^((note - 69) / 12) / sr. The bounds 2m - 1 <= 2x <=
2m + 1 are said by twelfth powers, (2x)^12 = (880 * 2^32)^12 * 2^(note - 69) / sr^12, with 2m - 1 cut at 0. A
sample word is RNE32 of the value, and a value already in binary32 goes unchanged. A table event is its one
command, and the codes 1, 2 and 3 are the source's errors (45_firmware_boundary.md R95, R101, 60_exceptions.md
R104). The firmware is outside the block and stands beside the machine as functions (log 18). -/
def Obligations.FirmwareConversionsRoundOnce : Prop :=
  (∀ n d sr : ℕ, 0 < d → 0 < sr →
    incOfFreq n d sr = BitVec.ofInt 32 (Spec.roundHalfEven ((n : ℚ) / d * 2 ^ 32 / sr))) ∧
  (∀ (note : BitVec 16) (sr : ℕ), 0 < sr → ∃ m : ℕ, incOfNote note sr = BitVec.ofNat 32 m ∧
    let twice : ℕ := (880 * 2 ^ 32) ^ 12 * 2 ^ note.toNat
    let low : ℕ := ((2 * m - 1) * sr) ^ 12 * 2 ^ 69
    let high : ℕ := ((2 * m + 1) * sr) ^ 12 * 2 ^ 69
    low ≤ twice ∧ twice ≤ high ∧ (twice = low ∨ twice = high → m % 2 = 0)) ∧
  (∀ (q : ℚ) (index : Word), setWaveformSample (.number q) index = .wrsample index (Spec.rne32 q)) ∧
  (∀ w index : Word, setWaveformSample (.word w) index = .wrsample index w) ∧
  (∀ n : Word, configureWaveform n = .configure n) ∧
  (∀ c : Byte, sourceError c =
    if c = 1 then some .invalidSize
    else if c = 2 then some .indexOutOfRange
    else if c = 3 then some .uninitializedTable
    else none)
end

