-- ==== Sys2Proof/Laws/State.lean ====
section
/-! SUPPORT. One lemma per field per named update of the state, so that no later proof unfolds a record
update. -/

namespace Sys2Proof.Machine

/-! ### updateVoice -/

@[simp] theorem updateVoice_params (s : State) (v : Nat) (f : Voice → Voice) : (s.updateVoice v f).params = s.params := rfl
@[simp] theorem updateVoice_voices (s : State) (v : Nat) (f : Voice → Voice) : (s.updateVoice v f).voices = s.voices.modify v f := rfl
@[simp] theorem updateVoice_tableSize (s : State) (v : Nat) (f : Voice → Voice) : (s.updateVoice v f).tableSize = s.tableSize := rfl
@[simp] theorem updateVoice_mem (s : State) (v : Nat) (f : Voice → Voice) : (s.updateVoice v f).mem = s.mem := rfl
@[simp] theorem updateVoice_attackStep (s : State) (v : Nat) (f : Voice → Voice) : (s.updateVoice v f).attackStep = s.attackStep := rfl
@[simp] theorem updateVoice_releaseStep (s : State) (v : Nat) (f : Voice → Voice) : (s.updateVoice v f).releaseStep = s.releaseStep := rfl
@[simp] theorem updateVoice_cmdArg0 (s : State) (v : Nat) (f : Voice → Voice) : (s.updateVoice v f).cmdArg0 = s.cmdArg0 := rfl
@[simp] theorem updateVoice_cmdArg1 (s : State) (v : Nat) (f : Voice → Voice) : (s.updateVoice v f).cmdArg1 = s.cmdArg1 := rfl
@[simp] theorem updateVoice_cmdResult (s : State) (v : Nat) (f : Voice → Voice) : (s.updateVoice v f).cmdResult = s.cmdResult := rfl
@[simp] theorem updateVoice_queue (s : State) (v : Nat) (f : Voice → Voice) : (s.updateVoice v f).queue = s.queue := rfl
@[simp] theorem updateVoice_ctlTableSize (s : State) (v : Nat) (f : Voice → Voice) : (s.updateVoice v f).ctlTableSize = s.ctlTableSize := rfl
@[simp] theorem updateVoice_busy (s : State) (v : Nat) (f : Voice → Voice) : (s.updateVoice v f).busy = s.busy := rfl
@[simp] theorem updateVoice_done (s : State) (v : Nat) (f : Voice → Voice) : (s.updateVoice v f).done = s.done := rfl
@[simp] theorem updateVoice_frameIdx (s : State) (v : Nat) (f : Voice → Voice) : (s.updateVoice v f).frameIdx = s.frameIdx := rfl
@[simp] theorem updateVoice_lastBlockFrames (s : State) (v : Nat) (f : Voice → Voice) : (s.updateVoice v f).lastBlockFrames = s.lastBlockFrames := rfl
@[simp] theorem updateVoice_renderResult (s : State) (v : Nat) (f : Voice → Voice) : (s.updateVoice v f).renderResult = s.renderResult := rfl
@[simp] theorem updateVoice_probePhase (s : State) (v : Nat) (f : Voice → Voice) : (s.updateVoice v f).probePhase = s.probePhase := rfl
@[simp] theorem updateVoice_probeResult (s : State) (v : Nat) (f : Voice → Voice) : (s.updateVoice v f).probeResult = s.probeResult := rfl
@[simp] theorem updateVoice_probeStatus (s : State) (v : Nat) (f : Voice → Voice) : (s.updateVoice v f).probeStatus = s.probeStatus := rfl
@[simp] theorem updateVoice_error (s : State) (v : Nat) (f : Voice → Voice) : (s.updateVoice v f).error = s.error := rfl
@[simp] theorem updateVoice_irqStatus (s : State) (v : Nat) (f : Voice → Voice) : (s.updateVoice v f).irqStatus = s.irqStatus := rfl
@[simp] theorem updateVoice_irqEnable (s : State) (v : Nat) (f : Voice → Voice) : (s.updateVoice v f).irqEnable = s.irqEnable := rfl
@[simp] theorem updateVoice_frameCount (s : State) (v : Nat) (f : Voice → Voice) : (s.updateVoice v f).frameCount = s.frameCount := rfl
@[simp] theorem updateVoice_inputs (s : State) (v : Nat) (f : Voice → Voice) : (s.updateVoice v f).inputs = s.inputs := rfl
@[simp] theorem updateVoice_resp (s : State) (v : Nat) (f : Voice → Voice) : (s.updateVoice v f).resp = s.resp := rfl
@[simp] theorem updateVoice_epoch (s : State) (v : Nat) (f : Voice → Voice) : (s.updateVoice v f).epoch = s.epoch := rfl

/-! ### setResult at cmdOp -/

@[simp] theorem setResult_cmdOp_params (c : Code) (s : State) : (setResult .cmdOp c s).params = s.params := rfl
@[simp] theorem setResult_cmdOp_voices (c : Code) (s : State) : (setResult .cmdOp c s).voices = s.voices := rfl
@[simp] theorem setResult_cmdOp_tableSize (c : Code) (s : State) : (setResult .cmdOp c s).tableSize = s.tableSize := rfl
@[simp] theorem setResult_cmdOp_mem (c : Code) (s : State) : (setResult .cmdOp c s).mem = s.mem := rfl
@[simp] theorem setResult_cmdOp_attackStep (c : Code) (s : State) : (setResult .cmdOp c s).attackStep = s.attackStep := rfl
@[simp] theorem setResult_cmdOp_releaseStep (c : Code) (s : State) : (setResult .cmdOp c s).releaseStep = s.releaseStep := rfl
@[simp] theorem setResult_cmdOp_cmdArg0 (c : Code) (s : State) : (setResult .cmdOp c s).cmdArg0 = s.cmdArg0 := rfl
@[simp] theorem setResult_cmdOp_cmdArg1 (c : Code) (s : State) : (setResult .cmdOp c s).cmdArg1 = s.cmdArg1 := rfl
@[simp] theorem setResult_cmdOp_cmdResult (c : Code) (s : State) : (setResult .cmdOp c s).cmdResult = codeByte c := rfl
@[simp] theorem setResult_cmdOp_queue (c : Code) (s : State) : (setResult .cmdOp c s).queue = s.queue := rfl
@[simp] theorem setResult_cmdOp_ctlTableSize (c : Code) (s : State) : (setResult .cmdOp c s).ctlTableSize = s.ctlTableSize := rfl
@[simp] theorem setResult_cmdOp_busy (c : Code) (s : State) : (setResult .cmdOp c s).busy = s.busy := rfl
@[simp] theorem setResult_cmdOp_done (c : Code) (s : State) : (setResult .cmdOp c s).done = s.done := rfl
@[simp] theorem setResult_cmdOp_frameIdx (c : Code) (s : State) : (setResult .cmdOp c s).frameIdx = s.frameIdx := rfl
@[simp] theorem setResult_cmdOp_lastBlockFrames (c : Code) (s : State) : (setResult .cmdOp c s).lastBlockFrames = s.lastBlockFrames := rfl
@[simp] theorem setResult_cmdOp_renderResult (c : Code) (s : State) : (setResult .cmdOp c s).renderResult = s.renderResult := rfl
@[simp] theorem setResult_cmdOp_probePhase (c : Code) (s : State) : (setResult .cmdOp c s).probePhase = s.probePhase := rfl
@[simp] theorem setResult_cmdOp_probeResult (c : Code) (s : State) : (setResult .cmdOp c s).probeResult = s.probeResult := rfl
@[simp] theorem setResult_cmdOp_probeStatus (c : Code) (s : State) : (setResult .cmdOp c s).probeStatus = s.probeStatus := rfl
@[simp] theorem setResult_cmdOp_error (c : Code) (s : State) : (setResult .cmdOp c s).error = s.error := rfl
@[simp] theorem setResult_cmdOp_irqStatus (c : Code) (s : State) : (setResult .cmdOp c s).irqStatus = s.irqStatus := rfl
@[simp] theorem setResult_cmdOp_irqEnable (c : Code) (s : State) : (setResult .cmdOp c s).irqEnable = s.irqEnable := rfl
@[simp] theorem setResult_cmdOp_frameCount (c : Code) (s : State) : (setResult .cmdOp c s).frameCount = s.frameCount := rfl
@[simp] theorem setResult_cmdOp_inputs (c : Code) (s : State) : (setResult .cmdOp c s).inputs = s.inputs := rfl
@[simp] theorem setResult_cmdOp_resp (c : Code) (s : State) : (setResult .cmdOp c s).resp = s.resp := rfl
@[simp] theorem setResult_cmdOp_epoch (c : Code) (s : State) : (setResult .cmdOp c s).epoch = s.epoch := rfl

/-! ### record at cmdOp -/

@[simp] theorem record_cmdOp_params (c : Code) (s : State) : (record .cmdOp c s).params = s.params := rfl
@[simp] theorem record_cmdOp_voices (c : Code) (s : State) : (record .cmdOp c s).voices = s.voices := rfl
@[simp] theorem record_cmdOp_tableSize (c : Code) (s : State) : (record .cmdOp c s).tableSize = s.tableSize := rfl
@[simp] theorem record_cmdOp_mem (c : Code) (s : State) : (record .cmdOp c s).mem = s.mem := rfl
@[simp] theorem record_cmdOp_attackStep (c : Code) (s : State) : (record .cmdOp c s).attackStep = s.attackStep := rfl
@[simp] theorem record_cmdOp_releaseStep (c : Code) (s : State) : (record .cmdOp c s).releaseStep = s.releaseStep := rfl
@[simp] theorem record_cmdOp_cmdArg0 (c : Code) (s : State) : (record .cmdOp c s).cmdArg0 = s.cmdArg0 := rfl
@[simp] theorem record_cmdOp_cmdArg1 (c : Code) (s : State) : (record .cmdOp c s).cmdArg1 = s.cmdArg1 := rfl
@[simp] theorem record_cmdOp_cmdResult (c : Code) (s : State) : (record .cmdOp c s).cmdResult = codeByte c := rfl
@[simp] theorem record_cmdOp_queue (c : Code) (s : State) : (record .cmdOp c s).queue = s.queue := rfl
@[simp] theorem record_cmdOp_ctlTableSize (c : Code) (s : State) : (record .cmdOp c s).ctlTableSize = s.ctlTableSize := rfl
@[simp] theorem record_cmdOp_busy (c : Code) (s : State) : (record .cmdOp c s).busy = s.busy := rfl
@[simp] theorem record_cmdOp_done (c : Code) (s : State) : (record .cmdOp c s).done = s.done := rfl
@[simp] theorem record_cmdOp_frameIdx (c : Code) (s : State) : (record .cmdOp c s).frameIdx = s.frameIdx := rfl
@[simp] theorem record_cmdOp_lastBlockFrames (c : Code) (s : State) : (record .cmdOp c s).lastBlockFrames = s.lastBlockFrames := rfl
@[simp] theorem record_cmdOp_renderResult (c : Code) (s : State) : (record .cmdOp c s).renderResult = s.renderResult := rfl
@[simp] theorem record_cmdOp_probePhase (c : Code) (s : State) : (record .cmdOp c s).probePhase = s.probePhase := rfl
@[simp] theorem record_cmdOp_probeResult (c : Code) (s : State) : (record .cmdOp c s).probeResult = s.probeResult := rfl
@[simp] theorem record_cmdOp_probeStatus (c : Code) (s : State) : (record .cmdOp c s).probeStatus = s.probeStatus := rfl
@[simp] theorem record_cmdOp_error (c : Code) (s : State) : (record .cmdOp c s).error = s.error ||| errorBit c := rfl
@[simp] theorem record_cmdOp_irqStatus (c : Code) (s : State) : (record .cmdOp c s).irqStatus = s.irqStatus ||| errorIrq := rfl
@[simp] theorem record_cmdOp_irqEnable (c : Code) (s : State) : (record .cmdOp c s).irqEnable = s.irqEnable := rfl
@[simp] theorem record_cmdOp_frameCount (c : Code) (s : State) : (record .cmdOp c s).frameCount = s.frameCount := rfl
@[simp] theorem record_cmdOp_inputs (c : Code) (s : State) : (record .cmdOp c s).inputs = s.inputs := rfl
@[simp] theorem record_cmdOp_resp (c : Code) (s : State) : (record .cmdOp c s).resp = s.resp := rfl
@[simp] theorem record_cmdOp_epoch (c : Code) (s : State) : (record .cmdOp c s).epoch = s.epoch := rfl

/-! ### setResult at renderCtrl -/

@[simp] theorem setResult_renderCtrl_params (c : Code) (s : State) : (setResult .renderCtrl c s).params = s.params := rfl
@[simp] theorem setResult_renderCtrl_voices (c : Code) (s : State) : (setResult .renderCtrl c s).voices = s.voices := rfl
@[simp] theorem setResult_renderCtrl_tableSize (c : Code) (s : State) : (setResult .renderCtrl c s).tableSize = s.tableSize := rfl
@[simp] theorem setResult_renderCtrl_mem (c : Code) (s : State) : (setResult .renderCtrl c s).mem = s.mem := rfl
@[simp] theorem setResult_renderCtrl_attackStep (c : Code) (s : State) : (setResult .renderCtrl c s).attackStep = s.attackStep := rfl
@[simp] theorem setResult_renderCtrl_releaseStep (c : Code) (s : State) : (setResult .renderCtrl c s).releaseStep = s.releaseStep := rfl
@[simp] theorem setResult_renderCtrl_cmdArg0 (c : Code) (s : State) : (setResult .renderCtrl c s).cmdArg0 = s.cmdArg0 := rfl
@[simp] theorem setResult_renderCtrl_cmdArg1 (c : Code) (s : State) : (setResult .renderCtrl c s).cmdArg1 = s.cmdArg1 := rfl
@[simp] theorem setResult_renderCtrl_cmdResult (c : Code) (s : State) : (setResult .renderCtrl c s).cmdResult = s.cmdResult := rfl
@[simp] theorem setResult_renderCtrl_queue (c : Code) (s : State) : (setResult .renderCtrl c s).queue = s.queue := rfl
@[simp] theorem setResult_renderCtrl_ctlTableSize (c : Code) (s : State) : (setResult .renderCtrl c s).ctlTableSize = s.ctlTableSize := rfl
@[simp] theorem setResult_renderCtrl_busy (c : Code) (s : State) : (setResult .renderCtrl c s).busy = s.busy := rfl
@[simp] theorem setResult_renderCtrl_done (c : Code) (s : State) : (setResult .renderCtrl c s).done = s.done := rfl
@[simp] theorem setResult_renderCtrl_frameIdx (c : Code) (s : State) : (setResult .renderCtrl c s).frameIdx = s.frameIdx := rfl
@[simp] theorem setResult_renderCtrl_lastBlockFrames (c : Code) (s : State) : (setResult .renderCtrl c s).lastBlockFrames = s.lastBlockFrames := rfl
@[simp] theorem setResult_renderCtrl_renderResult (c : Code) (s : State) : (setResult .renderCtrl c s).renderResult = codeByte c := rfl
@[simp] theorem setResult_renderCtrl_probePhase (c : Code) (s : State) : (setResult .renderCtrl c s).probePhase = s.probePhase := rfl
@[simp] theorem setResult_renderCtrl_probeResult (c : Code) (s : State) : (setResult .renderCtrl c s).probeResult = s.probeResult := rfl
@[simp] theorem setResult_renderCtrl_probeStatus (c : Code) (s : State) : (setResult .renderCtrl c s).probeStatus = s.probeStatus := rfl
@[simp] theorem setResult_renderCtrl_error (c : Code) (s : State) : (setResult .renderCtrl c s).error = s.error := rfl
@[simp] theorem setResult_renderCtrl_irqStatus (c : Code) (s : State) : (setResult .renderCtrl c s).irqStatus = s.irqStatus := rfl
@[simp] theorem setResult_renderCtrl_irqEnable (c : Code) (s : State) : (setResult .renderCtrl c s).irqEnable = s.irqEnable := rfl
@[simp] theorem setResult_renderCtrl_frameCount (c : Code) (s : State) : (setResult .renderCtrl c s).frameCount = s.frameCount := rfl
@[simp] theorem setResult_renderCtrl_inputs (c : Code) (s : State) : (setResult .renderCtrl c s).inputs = s.inputs := rfl
@[simp] theorem setResult_renderCtrl_resp (c : Code) (s : State) : (setResult .renderCtrl c s).resp = s.resp := rfl
@[simp] theorem setResult_renderCtrl_epoch (c : Code) (s : State) : (setResult .renderCtrl c s).epoch = s.epoch := rfl

/-! ### record at renderCtrl -/

@[simp] theorem record_renderCtrl_params (c : Code) (s : State) : (record .renderCtrl c s).params = s.params := rfl
@[simp] theorem record_renderCtrl_voices (c : Code) (s : State) : (record .renderCtrl c s).voices = s.voices := rfl
@[simp] theorem record_renderCtrl_tableSize (c : Code) (s : State) : (record .renderCtrl c s).tableSize = s.tableSize := rfl
@[simp] theorem record_renderCtrl_mem (c : Code) (s : State) : (record .renderCtrl c s).mem = s.mem := rfl
@[simp] theorem record_renderCtrl_attackStep (c : Code) (s : State) : (record .renderCtrl c s).attackStep = s.attackStep := rfl
@[simp] theorem record_renderCtrl_releaseStep (c : Code) (s : State) : (record .renderCtrl c s).releaseStep = s.releaseStep := rfl
@[simp] theorem record_renderCtrl_cmdArg0 (c : Code) (s : State) : (record .renderCtrl c s).cmdArg0 = s.cmdArg0 := rfl
@[simp] theorem record_renderCtrl_cmdArg1 (c : Code) (s : State) : (record .renderCtrl c s).cmdArg1 = s.cmdArg1 := rfl
@[simp] theorem record_renderCtrl_cmdResult (c : Code) (s : State) : (record .renderCtrl c s).cmdResult = s.cmdResult := rfl
@[simp] theorem record_renderCtrl_queue (c : Code) (s : State) : (record .renderCtrl c s).queue = s.queue := rfl
@[simp] theorem record_renderCtrl_ctlTableSize (c : Code) (s : State) : (record .renderCtrl c s).ctlTableSize = s.ctlTableSize := rfl
@[simp] theorem record_renderCtrl_busy (c : Code) (s : State) : (record .renderCtrl c s).busy = s.busy := rfl
@[simp] theorem record_renderCtrl_done (c : Code) (s : State) : (record .renderCtrl c s).done = s.done := rfl
@[simp] theorem record_renderCtrl_frameIdx (c : Code) (s : State) : (record .renderCtrl c s).frameIdx = s.frameIdx := rfl
@[simp] theorem record_renderCtrl_lastBlockFrames (c : Code) (s : State) : (record .renderCtrl c s).lastBlockFrames = s.lastBlockFrames := rfl
@[simp] theorem record_renderCtrl_renderResult (c : Code) (s : State) : (record .renderCtrl c s).renderResult = codeByte c := rfl
@[simp] theorem record_renderCtrl_probePhase (c : Code) (s : State) : (record .renderCtrl c s).probePhase = s.probePhase := rfl
@[simp] theorem record_renderCtrl_probeResult (c : Code) (s : State) : (record .renderCtrl c s).probeResult = s.probeResult := rfl
@[simp] theorem record_renderCtrl_probeStatus (c : Code) (s : State) : (record .renderCtrl c s).probeStatus = s.probeStatus := rfl
@[simp] theorem record_renderCtrl_error (c : Code) (s : State) : (record .renderCtrl c s).error = s.error ||| errorBit c := rfl
@[simp] theorem record_renderCtrl_irqStatus (c : Code) (s : State) : (record .renderCtrl c s).irqStatus = s.irqStatus ||| errorIrq := rfl
@[simp] theorem record_renderCtrl_irqEnable (c : Code) (s : State) : (record .renderCtrl c s).irqEnable = s.irqEnable := rfl
@[simp] theorem record_renderCtrl_frameCount (c : Code) (s : State) : (record .renderCtrl c s).frameCount = s.frameCount := rfl
@[simp] theorem record_renderCtrl_inputs (c : Code) (s : State) : (record .renderCtrl c s).inputs = s.inputs := rfl
@[simp] theorem record_renderCtrl_resp (c : Code) (s : State) : (record .renderCtrl c s).resp = s.resp := rfl
@[simp] theorem record_renderCtrl_epoch (c : Code) (s : State) : (record .renderCtrl c s).epoch = s.epoch := rfl

/-! ### setResult at probePhase -/

@[simp] theorem setResult_probePhase_params (c : Code) (s : State) : (setResult .probePhase c s).params = s.params := rfl
@[simp] theorem setResult_probePhase_voices (c : Code) (s : State) : (setResult .probePhase c s).voices = s.voices := rfl
@[simp] theorem setResult_probePhase_tableSize (c : Code) (s : State) : (setResult .probePhase c s).tableSize = s.tableSize := rfl
@[simp] theorem setResult_probePhase_mem (c : Code) (s : State) : (setResult .probePhase c s).mem = s.mem := rfl
@[simp] theorem setResult_probePhase_attackStep (c : Code) (s : State) : (setResult .probePhase c s).attackStep = s.attackStep := rfl
@[simp] theorem setResult_probePhase_releaseStep (c : Code) (s : State) : (setResult .probePhase c s).releaseStep = s.releaseStep := rfl
@[simp] theorem setResult_probePhase_cmdArg0 (c : Code) (s : State) : (setResult .probePhase c s).cmdArg0 = s.cmdArg0 := rfl
@[simp] theorem setResult_probePhase_cmdArg1 (c : Code) (s : State) : (setResult .probePhase c s).cmdArg1 = s.cmdArg1 := rfl
@[simp] theorem setResult_probePhase_cmdResult (c : Code) (s : State) : (setResult .probePhase c s).cmdResult = s.cmdResult := rfl
@[simp] theorem setResult_probePhase_queue (c : Code) (s : State) : (setResult .probePhase c s).queue = s.queue := rfl
@[simp] theorem setResult_probePhase_ctlTableSize (c : Code) (s : State) : (setResult .probePhase c s).ctlTableSize = s.ctlTableSize := rfl
@[simp] theorem setResult_probePhase_busy (c : Code) (s : State) : (setResult .probePhase c s).busy = s.busy := rfl
@[simp] theorem setResult_probePhase_done (c : Code) (s : State) : (setResult .probePhase c s).done = s.done := rfl
@[simp] theorem setResult_probePhase_frameIdx (c : Code) (s : State) : (setResult .probePhase c s).frameIdx = s.frameIdx := rfl
@[simp] theorem setResult_probePhase_lastBlockFrames (c : Code) (s : State) : (setResult .probePhase c s).lastBlockFrames = s.lastBlockFrames := rfl
@[simp] theorem setResult_probePhase_renderResult (c : Code) (s : State) : (setResult .probePhase c s).renderResult = s.renderResult := rfl
@[simp] theorem setResult_probePhase_probePhase (c : Code) (s : State) : (setResult .probePhase c s).probePhase = s.probePhase := rfl
@[simp] theorem setResult_probePhase_probeResult (c : Code) (s : State) : (setResult .probePhase c s).probeResult = s.probeResult := rfl
@[simp] theorem setResult_probePhase_probeStatus (c : Code) (s : State) : (setResult .probePhase c s).probeStatus = codeByte c := rfl
@[simp] theorem setResult_probePhase_error (c : Code) (s : State) : (setResult .probePhase c s).error = s.error := rfl
@[simp] theorem setResult_probePhase_irqStatus (c : Code) (s : State) : (setResult .probePhase c s).irqStatus = s.irqStatus := rfl
@[simp] theorem setResult_probePhase_irqEnable (c : Code) (s : State) : (setResult .probePhase c s).irqEnable = s.irqEnable := rfl
@[simp] theorem setResult_probePhase_frameCount (c : Code) (s : State) : (setResult .probePhase c s).frameCount = s.frameCount := rfl
@[simp] theorem setResult_probePhase_inputs (c : Code) (s : State) : (setResult .probePhase c s).inputs = s.inputs := rfl
@[simp] theorem setResult_probePhase_resp (c : Code) (s : State) : (setResult .probePhase c s).resp = s.resp := rfl
@[simp] theorem setResult_probePhase_epoch (c : Code) (s : State) : (setResult .probePhase c s).epoch = s.epoch := rfl

/-! ### record at probePhase -/

@[simp] theorem record_probePhase_params (c : Code) (s : State) : (record .probePhase c s).params = s.params := rfl
@[simp] theorem record_probePhase_voices (c : Code) (s : State) : (record .probePhase c s).voices = s.voices := rfl
@[simp] theorem record_probePhase_tableSize (c : Code) (s : State) : (record .probePhase c s).tableSize = s.tableSize := rfl
@[simp] theorem record_probePhase_mem (c : Code) (s : State) : (record .probePhase c s).mem = s.mem := rfl
@[simp] theorem record_probePhase_attackStep (c : Code) (s : State) : (record .probePhase c s).attackStep = s.attackStep := rfl
@[simp] theorem record_probePhase_releaseStep (c : Code) (s : State) : (record .probePhase c s).releaseStep = s.releaseStep := rfl
@[simp] theorem record_probePhase_cmdArg0 (c : Code) (s : State) : (record .probePhase c s).cmdArg0 = s.cmdArg0 := rfl
@[simp] theorem record_probePhase_cmdArg1 (c : Code) (s : State) : (record .probePhase c s).cmdArg1 = s.cmdArg1 := rfl
@[simp] theorem record_probePhase_cmdResult (c : Code) (s : State) : (record .probePhase c s).cmdResult = s.cmdResult := rfl
@[simp] theorem record_probePhase_queue (c : Code) (s : State) : (record .probePhase c s).queue = s.queue := rfl
@[simp] theorem record_probePhase_ctlTableSize (c : Code) (s : State) : (record .probePhase c s).ctlTableSize = s.ctlTableSize := rfl
@[simp] theorem record_probePhase_busy (c : Code) (s : State) : (record .probePhase c s).busy = s.busy := rfl
@[simp] theorem record_probePhase_done (c : Code) (s : State) : (record .probePhase c s).done = s.done := rfl
@[simp] theorem record_probePhase_frameIdx (c : Code) (s : State) : (record .probePhase c s).frameIdx = s.frameIdx := rfl
@[simp] theorem record_probePhase_lastBlockFrames (c : Code) (s : State) : (record .probePhase c s).lastBlockFrames = s.lastBlockFrames := rfl
@[simp] theorem record_probePhase_renderResult (c : Code) (s : State) : (record .probePhase c s).renderResult = s.renderResult := rfl
@[simp] theorem record_probePhase_probePhase (c : Code) (s : State) : (record .probePhase c s).probePhase = s.probePhase := rfl
@[simp] theorem record_probePhase_probeResult (c : Code) (s : State) : (record .probePhase c s).probeResult = s.probeResult := rfl
@[simp] theorem record_probePhase_probeStatus (c : Code) (s : State) : (record .probePhase c s).probeStatus = codeByte c := rfl
@[simp] theorem record_probePhase_error (c : Code) (s : State) : (record .probePhase c s).error = s.error ||| errorBit c := rfl
@[simp] theorem record_probePhase_irqStatus (c : Code) (s : State) : (record .probePhase c s).irqStatus = s.irqStatus ||| errorIrq := rfl
@[simp] theorem record_probePhase_irqEnable (c : Code) (s : State) : (record .probePhase c s).irqEnable = s.irqEnable := rfl
@[simp] theorem record_probePhase_frameCount (c : Code) (s : State) : (record .probePhase c s).frameCount = s.frameCount := rfl
@[simp] theorem record_probePhase_inputs (c : Code) (s : State) : (record .probePhase c s).inputs = s.inputs := rfl
@[simp] theorem record_probePhase_resp (c : Code) (s : State) : (record .probePhase c s).resp = s.resp := rfl
@[simp] theorem record_probePhase_epoch (c : Code) (s : State) : (record .probePhase c s).epoch = s.epoch := rfl

/-! ### ackError -/

@[simp] theorem ackError_params (d : Word) (s : State) : (ackError d s).params = s.params := rfl
@[simp] theorem ackError_voices (d : Word) (s : State) : (ackError d s).voices = s.voices := rfl
@[simp] theorem ackError_tableSize (d : Word) (s : State) : (ackError d s).tableSize = s.tableSize := rfl
@[simp] theorem ackError_mem (d : Word) (s : State) : (ackError d s).mem = s.mem := rfl
@[simp] theorem ackError_attackStep (d : Word) (s : State) : (ackError d s).attackStep = s.attackStep := rfl
@[simp] theorem ackError_releaseStep (d : Word) (s : State) : (ackError d s).releaseStep = s.releaseStep := rfl
@[simp] theorem ackError_cmdArg0 (d : Word) (s : State) : (ackError d s).cmdArg0 = s.cmdArg0 := rfl
@[simp] theorem ackError_cmdArg1 (d : Word) (s : State) : (ackError d s).cmdArg1 = s.cmdArg1 := rfl
@[simp] theorem ackError_cmdResult (d : Word) (s : State) : (ackError d s).cmdResult = s.cmdResult := rfl
@[simp] theorem ackError_queue (d : Word) (s : State) : (ackError d s).queue = s.queue := rfl
@[simp] theorem ackError_ctlTableSize (d : Word) (s : State) : (ackError d s).ctlTableSize = s.ctlTableSize := rfl
@[simp] theorem ackError_busy (d : Word) (s : State) : (ackError d s).busy = s.busy := rfl
@[simp] theorem ackError_done (d : Word) (s : State) : (ackError d s).done = s.done := rfl
@[simp] theorem ackError_frameIdx (d : Word) (s : State) : (ackError d s).frameIdx = s.frameIdx := rfl
@[simp] theorem ackError_lastBlockFrames (d : Word) (s : State) : (ackError d s).lastBlockFrames = s.lastBlockFrames := rfl
@[simp] theorem ackError_renderResult (d : Word) (s : State) : (ackError d s).renderResult = s.renderResult := rfl
@[simp] theorem ackError_probePhase (d : Word) (s : State) : (ackError d s).probePhase = s.probePhase := rfl
@[simp] theorem ackError_probeResult (d : Word) (s : State) : (ackError d s).probeResult = s.probeResult := rfl
@[simp] theorem ackError_probeStatus (d : Word) (s : State) : (ackError d s).probeStatus = s.probeStatus := rfl
@[simp] theorem ackError_error (d : Word) (s : State) : (ackError d s).error = s.error &&& ~~~(d.extractLsb' 0 11) := rfl
@[simp] theorem ackError_irqStatus (d : Word) (s : State) : (ackError d s).irqStatus = s.irqStatus := rfl
@[simp] theorem ackError_irqEnable (d : Word) (s : State) : (ackError d s).irqEnable = s.irqEnable := rfl
@[simp] theorem ackError_frameCount (d : Word) (s : State) : (ackError d s).frameCount = s.frameCount := rfl
@[simp] theorem ackError_inputs (d : Word) (s : State) : (ackError d s).inputs = s.inputs := rfl
@[simp] theorem ackError_resp (d : Word) (s : State) : (ackError d s).resp = s.resp := rfl
@[simp] theorem ackError_epoch (d : Word) (s : State) : (ackError d s).epoch = s.epoch := rfl

/-! ### ackIrq -/

@[simp] theorem ackIrq_params (d : Word) (s : State) : (ackIrq d s).params = s.params := rfl
@[simp] theorem ackIrq_voices (d : Word) (s : State) : (ackIrq d s).voices = s.voices := rfl
@[simp] theorem ackIrq_tableSize (d : Word) (s : State) : (ackIrq d s).tableSize = s.tableSize := rfl
@[simp] theorem ackIrq_mem (d : Word) (s : State) : (ackIrq d s).mem = s.mem := rfl
@[simp] theorem ackIrq_attackStep (d : Word) (s : State) : (ackIrq d s).attackStep = s.attackStep := rfl
@[simp] theorem ackIrq_releaseStep (d : Word) (s : State) : (ackIrq d s).releaseStep = s.releaseStep := rfl
@[simp] theorem ackIrq_cmdArg0 (d : Word) (s : State) : (ackIrq d s).cmdArg0 = s.cmdArg0 := rfl
@[simp] theorem ackIrq_cmdArg1 (d : Word) (s : State) : (ackIrq d s).cmdArg1 = s.cmdArg1 := rfl
@[simp] theorem ackIrq_cmdResult (d : Word) (s : State) : (ackIrq d s).cmdResult = s.cmdResult := rfl
@[simp] theorem ackIrq_queue (d : Word) (s : State) : (ackIrq d s).queue = s.queue := rfl
@[simp] theorem ackIrq_ctlTableSize (d : Word) (s : State) : (ackIrq d s).ctlTableSize = s.ctlTableSize := rfl
@[simp] theorem ackIrq_busy (d : Word) (s : State) : (ackIrq d s).busy = s.busy := rfl
@[simp] theorem ackIrq_done (d : Word) (s : State) : (ackIrq d s).done = s.done := rfl
@[simp] theorem ackIrq_frameIdx (d : Word) (s : State) : (ackIrq d s).frameIdx = s.frameIdx := rfl
@[simp] theorem ackIrq_lastBlockFrames (d : Word) (s : State) : (ackIrq d s).lastBlockFrames = s.lastBlockFrames := rfl
@[simp] theorem ackIrq_renderResult (d : Word) (s : State) : (ackIrq d s).renderResult = s.renderResult := rfl
@[simp] theorem ackIrq_probePhase (d : Word) (s : State) : (ackIrq d s).probePhase = s.probePhase := rfl
@[simp] theorem ackIrq_probeResult (d : Word) (s : State) : (ackIrq d s).probeResult = s.probeResult := rfl
@[simp] theorem ackIrq_probeStatus (d : Word) (s : State) : (ackIrq d s).probeStatus = s.probeStatus := rfl
@[simp] theorem ackIrq_error (d : Word) (s : State) : (ackIrq d s).error = s.error := rfl
@[simp] theorem ackIrq_irqStatus (d : Word) (s : State) : (ackIrq d s).irqStatus = s.irqStatus &&& ~~~(d.extractLsb' 0 2) := rfl
@[simp] theorem ackIrq_irqEnable (d : Word) (s : State) : (ackIrq d s).irqEnable = s.irqEnable := rfl
@[simp] theorem ackIrq_frameCount (d : Word) (s : State) : (ackIrq d s).frameCount = s.frameCount := rfl
@[simp] theorem ackIrq_inputs (d : Word) (s : State) : (ackIrq d s).inputs = s.inputs := rfl
@[simp] theorem ackIrq_resp (d : Word) (s : State) : (ackIrq d s).resp = s.resp := rfl
@[simp] theorem ackIrq_epoch (d : Word) (s : State) : (ackIrq d s).epoch = s.epoch := rfl

/-! ### applyConfigure -/

@[simp] theorem applyConfigure_params (e : QEntry) (s : State) : (applyConfigure e s).params = s.params := rfl
@[simp] theorem applyConfigure_voices (e : QEntry) (s : State) : (applyConfigure e s).voices = s.voices := rfl
@[simp] theorem applyConfigure_tableSize (e : QEntry) (s : State) : (applyConfigure e s).tableSize = e.arg0 := rfl
@[simp] theorem applyConfigure_mem (e : QEntry) (s : State) : (applyConfigure e s).mem = s.mem.zeroTable := rfl
@[simp] theorem applyConfigure_attackStep (e : QEntry) (s : State) : (applyConfigure e s).attackStep = s.attackStep := rfl
@[simp] theorem applyConfigure_releaseStep (e : QEntry) (s : State) : (applyConfigure e s).releaseStep = s.releaseStep := rfl
@[simp] theorem applyConfigure_cmdArg0 (e : QEntry) (s : State) : (applyConfigure e s).cmdArg0 = s.cmdArg0 := rfl
@[simp] theorem applyConfigure_cmdArg1 (e : QEntry) (s : State) : (applyConfigure e s).cmdArg1 = s.cmdArg1 := rfl
@[simp] theorem applyConfigure_cmdResult (e : QEntry) (s : State) : (applyConfigure e s).cmdResult = s.cmdResult := rfl
@[simp] theorem applyConfigure_queue (e : QEntry) (s : State) : (applyConfigure e s).queue = s.queue := rfl
@[simp] theorem applyConfigure_ctlTableSize (e : QEntry) (s : State) : (applyConfigure e s).ctlTableSize = s.ctlTableSize := rfl
@[simp] theorem applyConfigure_busy (e : QEntry) (s : State) : (applyConfigure e s).busy = s.busy := rfl
@[simp] theorem applyConfigure_done (e : QEntry) (s : State) : (applyConfigure e s).done = s.done := rfl
@[simp] theorem applyConfigure_frameIdx (e : QEntry) (s : State) : (applyConfigure e s).frameIdx = s.frameIdx := rfl
@[simp] theorem applyConfigure_lastBlockFrames (e : QEntry) (s : State) : (applyConfigure e s).lastBlockFrames = s.lastBlockFrames := rfl
@[simp] theorem applyConfigure_renderResult (e : QEntry) (s : State) : (applyConfigure e s).renderResult = s.renderResult := rfl
@[simp] theorem applyConfigure_probePhase (e : QEntry) (s : State) : (applyConfigure e s).probePhase = s.probePhase := rfl
@[simp] theorem applyConfigure_probeResult (e : QEntry) (s : State) : (applyConfigure e s).probeResult = s.probeResult := rfl
@[simp] theorem applyConfigure_probeStatus (e : QEntry) (s : State) : (applyConfigure e s).probeStatus = s.probeStatus := rfl
@[simp] theorem applyConfigure_error (e : QEntry) (s : State) : (applyConfigure e s).error = s.error := rfl
@[simp] theorem applyConfigure_irqStatus (e : QEntry) (s : State) : (applyConfigure e s).irqStatus = s.irqStatus := rfl
@[simp] theorem applyConfigure_irqEnable (e : QEntry) (s : State) : (applyConfigure e s).irqEnable = s.irqEnable := rfl
@[simp] theorem applyConfigure_frameCount (e : QEntry) (s : State) : (applyConfigure e s).frameCount = s.frameCount := rfl
@[simp] theorem applyConfigure_inputs (e : QEntry) (s : State) : (applyConfigure e s).inputs = s.inputs := rfl
@[simp] theorem applyConfigure_resp (e : QEntry) (s : State) : (applyConfigure e s).resp = s.resp := rfl
@[simp] theorem applyConfigure_epoch (e : QEntry) (s : State) : (applyConfigure e s).epoch = s.epoch := rfl

/-! ### applyWrsample -/

@[simp] theorem applyWrsample_params (e : QEntry) (s : State) : (applyWrsample e s).params = s.params := rfl
@[simp] theorem applyWrsample_voices (e : QEntry) (s : State) : (applyWrsample e s).voices = s.voices := rfl
@[simp] theorem applyWrsample_tableSize (e : QEntry) (s : State) : (applyWrsample e s).tableSize = s.tableSize := rfl
@[simp] theorem applyWrsample_mem (e : QEntry) (s : State) : (applyWrsample e s).mem = s.mem.writeTable e.arg0.toNat e.arg1 := rfl
@[simp] theorem applyWrsample_attackStep (e : QEntry) (s : State) : (applyWrsample e s).attackStep = s.attackStep := rfl
@[simp] theorem applyWrsample_releaseStep (e : QEntry) (s : State) : (applyWrsample e s).releaseStep = s.releaseStep := rfl
@[simp] theorem applyWrsample_cmdArg0 (e : QEntry) (s : State) : (applyWrsample e s).cmdArg0 = s.cmdArg0 := rfl
@[simp] theorem applyWrsample_cmdArg1 (e : QEntry) (s : State) : (applyWrsample e s).cmdArg1 = s.cmdArg1 := rfl
@[simp] theorem applyWrsample_cmdResult (e : QEntry) (s : State) : (applyWrsample e s).cmdResult = s.cmdResult := rfl
@[simp] theorem applyWrsample_queue (e : QEntry) (s : State) : (applyWrsample e s).queue = s.queue := rfl
@[simp] theorem applyWrsample_ctlTableSize (e : QEntry) (s : State) : (applyWrsample e s).ctlTableSize = s.ctlTableSize := rfl
@[simp] theorem applyWrsample_busy (e : QEntry) (s : State) : (applyWrsample e s).busy = s.busy := rfl
@[simp] theorem applyWrsample_done (e : QEntry) (s : State) : (applyWrsample e s).done = s.done := rfl
@[simp] theorem applyWrsample_frameIdx (e : QEntry) (s : State) : (applyWrsample e s).frameIdx = s.frameIdx := rfl
@[simp] theorem applyWrsample_lastBlockFrames (e : QEntry) (s : State) : (applyWrsample e s).lastBlockFrames = s.lastBlockFrames := rfl
@[simp] theorem applyWrsample_renderResult (e : QEntry) (s : State) : (applyWrsample e s).renderResult = s.renderResult := rfl
@[simp] theorem applyWrsample_probePhase (e : QEntry) (s : State) : (applyWrsample e s).probePhase = s.probePhase := rfl
@[simp] theorem applyWrsample_probeResult (e : QEntry) (s : State) : (applyWrsample e s).probeResult = s.probeResult := rfl
@[simp] theorem applyWrsample_probeStatus (e : QEntry) (s : State) : (applyWrsample e s).probeStatus = s.probeStatus := rfl
@[simp] theorem applyWrsample_error (e : QEntry) (s : State) : (applyWrsample e s).error = s.error := rfl
@[simp] theorem applyWrsample_irqStatus (e : QEntry) (s : State) : (applyWrsample e s).irqStatus = s.irqStatus := rfl
@[simp] theorem applyWrsample_irqEnable (e : QEntry) (s : State) : (applyWrsample e s).irqEnable = s.irqEnable := rfl
@[simp] theorem applyWrsample_frameCount (e : QEntry) (s : State) : (applyWrsample e s).frameCount = s.frameCount := rfl
@[simp] theorem applyWrsample_inputs (e : QEntry) (s : State) : (applyWrsample e s).inputs = s.inputs := rfl
@[simp] theorem applyWrsample_resp (e : QEntry) (s : State) : (applyWrsample e s).resp = s.resp := rfl
@[simp] theorem applyWrsample_epoch (e : QEntry) (s : State) : (applyWrsample e s).epoch = s.epoch := rfl

/-! ### applyActivate -/

@[simp] theorem applyActivate_params (e : QEntry) (s : State) : (applyActivate e s).params = s.params := rfl
@[simp] theorem applyActivate_voices (e : QEntry) (s : State) : (applyActivate e s).voices = s.voices.modify e.slot.toNat (Voice.activate (entryNote e) e.vel e.arg1) := rfl
@[simp] theorem applyActivate_tableSize (e : QEntry) (s : State) : (applyActivate e s).tableSize = s.tableSize := rfl
@[simp] theorem applyActivate_mem (e : QEntry) (s : State) : (applyActivate e s).mem = s.mem := rfl
@[simp] theorem applyActivate_attackStep (e : QEntry) (s : State) : (applyActivate e s).attackStep = s.attackStep := rfl
@[simp] theorem applyActivate_releaseStep (e : QEntry) (s : State) : (applyActivate e s).releaseStep = s.releaseStep := rfl
@[simp] theorem applyActivate_cmdArg0 (e : QEntry) (s : State) : (applyActivate e s).cmdArg0 = s.cmdArg0 := rfl
@[simp] theorem applyActivate_cmdArg1 (e : QEntry) (s : State) : (applyActivate e s).cmdArg1 = s.cmdArg1 := rfl
@[simp] theorem applyActivate_cmdResult (e : QEntry) (s : State) : (applyActivate e s).cmdResult = s.cmdResult := rfl
@[simp] theorem applyActivate_queue (e : QEntry) (s : State) : (applyActivate e s).queue = s.queue := rfl
@[simp] theorem applyActivate_ctlTableSize (e : QEntry) (s : State) : (applyActivate e s).ctlTableSize = s.ctlTableSize := rfl
@[simp] theorem applyActivate_busy (e : QEntry) (s : State) : (applyActivate e s).busy = s.busy := rfl
@[simp] theorem applyActivate_done (e : QEntry) (s : State) : (applyActivate e s).done = s.done := rfl
@[simp] theorem applyActivate_frameIdx (e : QEntry) (s : State) : (applyActivate e s).frameIdx = s.frameIdx := rfl
@[simp] theorem applyActivate_lastBlockFrames (e : QEntry) (s : State) : (applyActivate e s).lastBlockFrames = s.lastBlockFrames := rfl
@[simp] theorem applyActivate_renderResult (e : QEntry) (s : State) : (applyActivate e s).renderResult = s.renderResult := rfl
@[simp] theorem applyActivate_probePhase (e : QEntry) (s : State) : (applyActivate e s).probePhase = s.probePhase := rfl
@[simp] theorem applyActivate_probeResult (e : QEntry) (s : State) : (applyActivate e s).probeResult = s.probeResult := rfl
@[simp] theorem applyActivate_probeStatus (e : QEntry) (s : State) : (applyActivate e s).probeStatus = s.probeStatus := rfl
@[simp] theorem applyActivate_error (e : QEntry) (s : State) : (applyActivate e s).error = s.error := rfl
@[simp] theorem applyActivate_irqStatus (e : QEntry) (s : State) : (applyActivate e s).irqStatus = s.irqStatus := rfl
@[simp] theorem applyActivate_irqEnable (e : QEntry) (s : State) : (applyActivate e s).irqEnable = s.irqEnable := rfl
@[simp] theorem applyActivate_frameCount (e : QEntry) (s : State) : (applyActivate e s).frameCount = s.frameCount := rfl
@[simp] theorem applyActivate_inputs (e : QEntry) (s : State) : (applyActivate e s).inputs = s.inputs := rfl
@[simp] theorem applyActivate_resp (e : QEntry) (s : State) : (applyActivate e s).resp = s.resp := rfl
@[simp] theorem applyActivate_epoch (e : QEntry) (s : State) : (applyActivate e s).epoch = s.epoch := rfl

/-! ### applyRelease -/

@[simp] theorem applyRelease_params (e : QEntry) (s : State) : (applyRelease e s).params = s.params := rfl
@[simp] theorem applyRelease_voices (e : QEntry) (s : State) : (applyRelease e s).voices = s.voices.modify e.slot.toNat Voice.release := rfl
@[simp] theorem applyRelease_tableSize (e : QEntry) (s : State) : (applyRelease e s).tableSize = s.tableSize := rfl
@[simp] theorem applyRelease_mem (e : QEntry) (s : State) : (applyRelease e s).mem = s.mem := rfl
@[simp] theorem applyRelease_attackStep (e : QEntry) (s : State) : (applyRelease e s).attackStep = s.attackStep := rfl
@[simp] theorem applyRelease_releaseStep (e : QEntry) (s : State) : (applyRelease e s).releaseStep = s.releaseStep := rfl
@[simp] theorem applyRelease_cmdArg0 (e : QEntry) (s : State) : (applyRelease e s).cmdArg0 = s.cmdArg0 := rfl
@[simp] theorem applyRelease_cmdArg1 (e : QEntry) (s : State) : (applyRelease e s).cmdArg1 = s.cmdArg1 := rfl
@[simp] theorem applyRelease_cmdResult (e : QEntry) (s : State) : (applyRelease e s).cmdResult = s.cmdResult := rfl
@[simp] theorem applyRelease_queue (e : QEntry) (s : State) : (applyRelease e s).queue = s.queue := rfl
@[simp] theorem applyRelease_ctlTableSize (e : QEntry) (s : State) : (applyRelease e s).ctlTableSize = s.ctlTableSize := rfl
@[simp] theorem applyRelease_busy (e : QEntry) (s : State) : (applyRelease e s).busy = s.busy := rfl
@[simp] theorem applyRelease_done (e : QEntry) (s : State) : (applyRelease e s).done = s.done := rfl
@[simp] theorem applyRelease_frameIdx (e : QEntry) (s : State) : (applyRelease e s).frameIdx = s.frameIdx := rfl
@[simp] theorem applyRelease_lastBlockFrames (e : QEntry) (s : State) : (applyRelease e s).lastBlockFrames = s.lastBlockFrames := rfl
@[simp] theorem applyRelease_renderResult (e : QEntry) (s : State) : (applyRelease e s).renderResult = s.renderResult := rfl
@[simp] theorem applyRelease_probePhase (e : QEntry) (s : State) : (applyRelease e s).probePhase = s.probePhase := rfl
@[simp] theorem applyRelease_probeResult (e : QEntry) (s : State) : (applyRelease e s).probeResult = s.probeResult := rfl
@[simp] theorem applyRelease_probeStatus (e : QEntry) (s : State) : (applyRelease e s).probeStatus = s.probeStatus := rfl
@[simp] theorem applyRelease_error (e : QEntry) (s : State) : (applyRelease e s).error = s.error := rfl
@[simp] theorem applyRelease_irqStatus (e : QEntry) (s : State) : (applyRelease e s).irqStatus = s.irqStatus := rfl
@[simp] theorem applyRelease_irqEnable (e : QEntry) (s : State) : (applyRelease e s).irqEnable = s.irqEnable := rfl
@[simp] theorem applyRelease_frameCount (e : QEntry) (s : State) : (applyRelease e s).frameCount = s.frameCount := rfl
@[simp] theorem applyRelease_inputs (e : QEntry) (s : State) : (applyRelease e s).inputs = s.inputs := rfl
@[simp] theorem applyRelease_resp (e : QEntry) (s : State) : (applyRelease e s).resp = s.resp := rfl
@[simp] theorem applyRelease_epoch (e : QEntry) (s : State) : (applyRelease e s).epoch = s.epoch := rfl

/-! ### applySilence -/

@[simp] theorem applySilence_params (e : QEntry) (s : State) : (applySilence e s).params = s.params := rfl
@[simp] theorem applySilence_voices (e : QEntry) (s : State) : (applySilence e s).voices = s.voices.modify e.slot.toNat Voice.silence := rfl
@[simp] theorem applySilence_tableSize (e : QEntry) (s : State) : (applySilence e s).tableSize = s.tableSize := rfl
@[simp] theorem applySilence_mem (e : QEntry) (s : State) : (applySilence e s).mem = s.mem := rfl
@[simp] theorem applySilence_attackStep (e : QEntry) (s : State) : (applySilence e s).attackStep = s.attackStep := rfl
@[simp] theorem applySilence_releaseStep (e : QEntry) (s : State) : (applySilence e s).releaseStep = s.releaseStep := rfl
@[simp] theorem applySilence_cmdArg0 (e : QEntry) (s : State) : (applySilence e s).cmdArg0 = s.cmdArg0 := rfl
@[simp] theorem applySilence_cmdArg1 (e : QEntry) (s : State) : (applySilence e s).cmdArg1 = s.cmdArg1 := rfl
@[simp] theorem applySilence_cmdResult (e : QEntry) (s : State) : (applySilence e s).cmdResult = s.cmdResult := rfl
@[simp] theorem applySilence_queue (e : QEntry) (s : State) : (applySilence e s).queue = s.queue := rfl
@[simp] theorem applySilence_ctlTableSize (e : QEntry) (s : State) : (applySilence e s).ctlTableSize = s.ctlTableSize := rfl
@[simp] theorem applySilence_busy (e : QEntry) (s : State) : (applySilence e s).busy = s.busy := rfl
@[simp] theorem applySilence_done (e : QEntry) (s : State) : (applySilence e s).done = s.done := rfl
@[simp] theorem applySilence_frameIdx (e : QEntry) (s : State) : (applySilence e s).frameIdx = s.frameIdx := rfl
@[simp] theorem applySilence_lastBlockFrames (e : QEntry) (s : State) : (applySilence e s).lastBlockFrames = s.lastBlockFrames := rfl
@[simp] theorem applySilence_renderResult (e : QEntry) (s : State) : (applySilence e s).renderResult = s.renderResult := rfl
@[simp] theorem applySilence_probePhase (e : QEntry) (s : State) : (applySilence e s).probePhase = s.probePhase := rfl
@[simp] theorem applySilence_probeResult (e : QEntry) (s : State) : (applySilence e s).probeResult = s.probeResult := rfl
@[simp] theorem applySilence_probeStatus (e : QEntry) (s : State) : (applySilence e s).probeStatus = s.probeStatus := rfl
@[simp] theorem applySilence_error (e : QEntry) (s : State) : (applySilence e s).error = s.error := rfl
@[simp] theorem applySilence_irqStatus (e : QEntry) (s : State) : (applySilence e s).irqStatus = s.irqStatus := rfl
@[simp] theorem applySilence_irqEnable (e : QEntry) (s : State) : (applySilence e s).irqEnable = s.irqEnable := rfl
@[simp] theorem applySilence_frameCount (e : QEntry) (s : State) : (applySilence e s).frameCount = s.frameCount := rfl
@[simp] theorem applySilence_inputs (e : QEntry) (s : State) : (applySilence e s).inputs = s.inputs := rfl
@[simp] theorem applySilence_resp (e : QEntry) (s : State) : (applySilence e s).resp = s.resp := rfl
@[simp] theorem applySilence_epoch (e : QEntry) (s : State) : (applySilence e s).epoch = s.epoch := rfl

/-! ### applyResetAll -/

@[simp] theorem applyResetAll_params (s : State) : (applyResetAll s).params = s.params := rfl
@[simp] theorem applyResetAll_voices (s : State) : (applyResetAll s).voices = s.voices.map Voice.silence := rfl
@[simp] theorem applyResetAll_tableSize (s : State) : (applyResetAll s).tableSize = s.tableSize := rfl
@[simp] theorem applyResetAll_mem (s : State) : (applyResetAll s).mem = s.mem := rfl
@[simp] theorem applyResetAll_attackStep (s : State) : (applyResetAll s).attackStep = s.attackStep := rfl
@[simp] theorem applyResetAll_releaseStep (s : State) : (applyResetAll s).releaseStep = s.releaseStep := rfl
@[simp] theorem applyResetAll_cmdArg0 (s : State) : (applyResetAll s).cmdArg0 = s.cmdArg0 := rfl
@[simp] theorem applyResetAll_cmdArg1 (s : State) : (applyResetAll s).cmdArg1 = s.cmdArg1 := rfl
@[simp] theorem applyResetAll_cmdResult (s : State) : (applyResetAll s).cmdResult = s.cmdResult := rfl
@[simp] theorem applyResetAll_queue (s : State) : (applyResetAll s).queue = s.queue := rfl
@[simp] theorem applyResetAll_ctlTableSize (s : State) : (applyResetAll s).ctlTableSize = s.ctlTableSize := rfl
@[simp] theorem applyResetAll_busy (s : State) : (applyResetAll s).busy = s.busy := rfl
@[simp] theorem applyResetAll_done (s : State) : (applyResetAll s).done = s.done := rfl
@[simp] theorem applyResetAll_frameIdx (s : State) : (applyResetAll s).frameIdx = s.frameIdx := rfl
@[simp] theorem applyResetAll_lastBlockFrames (s : State) : (applyResetAll s).lastBlockFrames = s.lastBlockFrames := rfl
@[simp] theorem applyResetAll_renderResult (s : State) : (applyResetAll s).renderResult = s.renderResult := rfl
@[simp] theorem applyResetAll_probePhase (s : State) : (applyResetAll s).probePhase = s.probePhase := rfl
@[simp] theorem applyResetAll_probeResult (s : State) : (applyResetAll s).probeResult = s.probeResult := rfl
@[simp] theorem applyResetAll_probeStatus (s : State) : (applyResetAll s).probeStatus = s.probeStatus := rfl
@[simp] theorem applyResetAll_error (s : State) : (applyResetAll s).error = s.error := rfl
@[simp] theorem applyResetAll_irqStatus (s : State) : (applyResetAll s).irqStatus = s.irqStatus := rfl
@[simp] theorem applyResetAll_irqEnable (s : State) : (applyResetAll s).irqEnable = s.irqEnable := rfl
@[simp] theorem applyResetAll_frameCount (s : State) : (applyResetAll s).frameCount = s.frameCount := rfl
@[simp] theorem applyResetAll_inputs (s : State) : (applyResetAll s).inputs = s.inputs := rfl
@[simp] theorem applyResetAll_resp (s : State) : (applyResetAll s).resp = s.resp := rfl
@[simp] theorem applyResetAll_epoch (s : State) : (applyResetAll s).epoch = s.epoch := rfl

/-! ### applySetEnv -/

@[simp] theorem applySetEnv_params (e : QEntry) (s : State) : (applySetEnv e s).params = s.params := rfl
@[simp] theorem applySetEnv_voices (e : QEntry) (s : State) : (applySetEnv e s).voices = s.voices := rfl
@[simp] theorem applySetEnv_tableSize (e : QEntry) (s : State) : (applySetEnv e s).tableSize = s.tableSize := rfl
@[simp] theorem applySetEnv_mem (e : QEntry) (s : State) : (applySetEnv e s).mem = s.mem := rfl
@[simp] theorem applySetEnv_attackStep (e : QEntry) (s : State) : (applySetEnv e s).attackStep = entryAttack e := rfl
@[simp] theorem applySetEnv_releaseStep (e : QEntry) (s : State) : (applySetEnv e s).releaseStep = entryRelease e := rfl
@[simp] theorem applySetEnv_cmdArg0 (e : QEntry) (s : State) : (applySetEnv e s).cmdArg0 = s.cmdArg0 := rfl
@[simp] theorem applySetEnv_cmdArg1 (e : QEntry) (s : State) : (applySetEnv e s).cmdArg1 = s.cmdArg1 := rfl
@[simp] theorem applySetEnv_cmdResult (e : QEntry) (s : State) : (applySetEnv e s).cmdResult = s.cmdResult := rfl
@[simp] theorem applySetEnv_queue (e : QEntry) (s : State) : (applySetEnv e s).queue = s.queue := rfl
@[simp] theorem applySetEnv_ctlTableSize (e : QEntry) (s : State) : (applySetEnv e s).ctlTableSize = s.ctlTableSize := rfl
@[simp] theorem applySetEnv_busy (e : QEntry) (s : State) : (applySetEnv e s).busy = s.busy := rfl
@[simp] theorem applySetEnv_done (e : QEntry) (s : State) : (applySetEnv e s).done = s.done := rfl
@[simp] theorem applySetEnv_frameIdx (e : QEntry) (s : State) : (applySetEnv e s).frameIdx = s.frameIdx := rfl
@[simp] theorem applySetEnv_lastBlockFrames (e : QEntry) (s : State) : (applySetEnv e s).lastBlockFrames = s.lastBlockFrames := rfl
@[simp] theorem applySetEnv_renderResult (e : QEntry) (s : State) : (applySetEnv e s).renderResult = s.renderResult := rfl
@[simp] theorem applySetEnv_probePhase (e : QEntry) (s : State) : (applySetEnv e s).probePhase = s.probePhase := rfl
@[simp] theorem applySetEnv_probeResult (e : QEntry) (s : State) : (applySetEnv e s).probeResult = s.probeResult := rfl
@[simp] theorem applySetEnv_probeStatus (e : QEntry) (s : State) : (applySetEnv e s).probeStatus = s.probeStatus := rfl
@[simp] theorem applySetEnv_error (e : QEntry) (s : State) : (applySetEnv e s).error = s.error := rfl
@[simp] theorem applySetEnv_irqStatus (e : QEntry) (s : State) : (applySetEnv e s).irqStatus = s.irqStatus := rfl
@[simp] theorem applySetEnv_irqEnable (e : QEntry) (s : State) : (applySetEnv e s).irqEnable = s.irqEnable := rfl
@[simp] theorem applySetEnv_frameCount (e : QEntry) (s : State) : (applySetEnv e s).frameCount = s.frameCount := rfl
@[simp] theorem applySetEnv_inputs (e : QEntry) (s : State) : (applySetEnv e s).inputs = s.inputs := rfl
@[simp] theorem applySetEnv_resp (e : QEntry) (s : State) : (applySetEnv e s).resp = s.resp := rfl
@[simp] theorem applySetEnv_epoch (e : QEntry) (s : State) : (applySetEnv e s).epoch = s.epoch := rfl

/-- `reject` is `record`: it ends the access with no other state change (60_exceptions.md R106). -/
@[simp] theorem reject_eq_record (p : Port) (c : Code) (s : State) : reject p c s = record p c s := rfl

end Sys2Proof.Machine
end

