-- ==== Sys2Proof/Laws/Ops.lean ====
section
/-! SUPPORT. What each shared operation can do, said once: the word stores (read after write, the canonical
form kept), the push, the queue's application, the frame step and the step. -/

namespace Sys2Proof.Machine

/-! ### The word stores -/

theorem cellRead_cellWrite_same (c : Cells) (i : Nat) (w : Word) : cellRead (cellWrite c i w) i = some w := by
  induction c with
  | nil => simp [cellWrite, cellRead]
  | cons h t ih =>
    obtain ⟨j, v⟩ := h
    unfold cellWrite
    split
    · simp [cellRead]
    · split
      · simp [cellRead]
      · simp [cellRead, *]

theorem cellRead_cellWrite_other (c : Cells) (i k : Nat) (w : Word) (h : k ≠ i) :
    cellRead (cellWrite c i w) k = cellRead c k := by
  induction c with
  | nil => simp [cellWrite, cellRead, h]
  | cons hd t ih =>
    obtain ⟨j, v⟩ := hd
    unfold cellWrite
    split
    · simp [cellRead, h]
    · split
      · subst j; simp [cellRead, h]
      · simp only [cellRead, ih]

theorem cellRead_cellErase_same (c : Cells) (i : Nat) : cellRead (cellErase c i) i = none := by
  induction c with
  | nil => rfl
  | cons hd t ih =>
    obtain ⟨j, v⟩ := hd
    unfold cellErase
    split
    · exact ih
    · simp [cellRead, *]

theorem cellRead_cellErase_other (c : Cells) (i k : Nat) (h : k ≠ i) :
    cellRead (cellErase c i) k = cellRead c k := by
  induction c with
  | nil => rfl
  | cons hd t ih =>
    obtain ⟨j, v⟩ := hd
    unfold cellErase
    split
    · subst j; simp [cellRead, h, ih]
    · simp only [cellRead, ih]

theorem cellsAbove_mono {lo lo' : Nat} {c : Cells} (h : cellsAbove lo' c = true) (hl : lo ≤ lo') :
    cellsAbove lo c = true := by
  cases c with
  | nil => rfl
  | cons hd t =>
    simp only [cellsAbove, Bool.and_eq_true, decide_eq_true_eq] at h ⊢
    exact ⟨by omega, h.2⟩

theorem cellsAbove_write {lo i : Nat} {c : Cells} {w : Word} (h : cellsAbove lo c = true) (hi : lo < i) :
    cellsAbove lo (cellWrite c i w) = true := by
  induction c generalizing lo with
  | nil => simp [cellWrite, cellsAbove, hi]
  | cons hd t ih =>
    obtain ⟨j, v⟩ := hd
    simp only [cellsAbove, Bool.and_eq_true, decide_eq_true_eq] at h
    unfold cellWrite
    split
    · simp [cellsAbove, *]
    · split
      · subst j; simp [cellsAbove, *]
      · simp only [cellsAbove, Bool.and_eq_true, decide_eq_true_eq]
        exact ⟨h.1, ih h.2 (by omega)⟩

theorem cellsAbove_erase {lo i : Nat} {c : Cells} (h : cellsAbove lo c = true) :
    cellsAbove lo (cellErase c i) = true := by
  induction c generalizing lo with
  | nil => rfl
  | cons hd t ih =>
    obtain ⟨j, v⟩ := hd
    simp only [cellsAbove, Bool.and_eq_true, decide_eq_true_eq] at h
    unfold cellErase
    split
    · exact ih (cellsAbove_mono h.2 (by omega))
    · simp only [cellsAbove, Bool.and_eq_true, decide_eq_true_eq]
      exact ⟨h.1, ih h.2⟩

theorem cellsRising_write {c : Cells} (i : Nat) (w : Word) (h : cellsRising c = true) :
    cellsRising (cellWrite c i w) = true := by
  cases c with
  | nil => rfl
  | cons hd t =>
    obtain ⟨j, v⟩ := hd
    have h' : cellsAbove j t = true := h
    unfold cellWrite
    split
    · simp [cellsRising, cellsAbove, *]
    · split
      · subst j; exact h'
      · exact cellsAbove_write h' (by omega)

theorem cellsRising_erase {c : Cells} (i : Nat) (h : cellsRising c = true) :
    cellsRising (cellErase c i) = true := by
  induction c with
  | nil => rfl
  | cons hd t ih =>
    obtain ⟨j, v⟩ := hd
    have h' : cellsAbove j t = true := h
    unfold cellErase
    split
    · apply ih
      cases t with
      | nil => rfl
      | cons hd' t' => simp [cellsAbove] at h'; exact h'.2
    · exact cellsAbove_erase h'

theorem mem_cellWrite {c : Cells} {i : Nat} {w : Word} {x : Nat × Word} (h : x ∈ cellWrite c i w) :
    x = (i, w) ∨ x ∈ c := by
  induction c with
  | nil => simpa [cellWrite] using h
  | cons hd t ih =>
    obtain ⟨j, v⟩ := hd
    unfold cellWrite at h
    split at h
    · simpa using h
    · split at h
      · simp at h ⊢; tauto
      · simp at h ⊢
        rcases h with h | h
        · exact .inr (.inl h)
        · rcases ih h with h | h
          · exact .inl (by simpa using h)
          · exact .inr (.inr h)

theorem mem_cellErase {c : Cells} {i : Nat} {x : Nat × Word} (h : x ∈ cellErase c i) : x ∈ c := by
  induction c with
  | nil => simp [cellErase] at h
  | cons hd t ih =>
    obtain ⟨j, v⟩ := hd
    unfold cellErase at h
    split at h
    · exact List.mem_cons_of_mem _ (ih h)
    · simp at h ⊢
      rcases h with h | h
      · exact .inl h
      · exact .inr (ih h)

/-- The canonical form, unfolded once. -/
theorem Memory.wf_iff (m : Memory) :
    m.wf = true ↔ cellsRising m.table = true ∧ cellsRising m.outbuf = true ∧ ∀ c ∈ m.table, c.2 ≠ 0 := by
  simp [Memory.wf, and_assoc]

theorem Memory.wf_writeTable {m : Memory} (i : Nat) (w : Word) (h : m.wf = true) :
    (m.writeTable i w).wf = true := by
  rw [Memory.wf_iff] at h ⊢
  unfold Memory.writeTable
  split
  · exact ⟨cellsRising_erase i h.1, h.2.1, fun c hc => h.2.2 c (mem_cellErase hc)⟩
  · refine ⟨cellsRising_write i w h.1, h.2.1, fun c hc => ?_⟩
    rcases mem_cellWrite hc with rfl | hc
    · assumption
    · exact h.2.2 c hc

theorem Memory.wf_zeroTable {m : Memory} (h : m.wf = true) : m.zeroTable.wf = true := by
  rw [Memory.wf_iff] at h ⊢
  exact ⟨rfl, h.2.1, by simp [Memory.zeroTable]⟩

theorem Memory.wf_writeOutbuf {m : Memory} (k : Nat) (w : Word) (h : m.wf = true) :
    (m.writeOutbuf k w).wf = true := by
  rw [Memory.wf_iff] at h ⊢
  exact ⟨h.1, cellsRising_write k w h.2.1, h.2.2⟩

/-- The memory of the reset state is in canonical form. -/
theorem reset_memory_wf : State.reset.mem.wf = true := rfl

@[simp] theorem readTable_zeroTable (m : Memory) (i : Nat) : m.zeroTable.readTable i = 0 := rfl

@[simp] theorem readTable_writeTable_same (m : Memory) (i : Nat) (w : Word) :
    (m.writeTable i w).readTable i = w := by
  unfold Memory.writeTable Memory.readTable
  split
  · simp [cellRead_cellErase_same, *]
  · simp [cellRead_cellWrite_same]

theorem readTable_writeTable_other (m : Memory) (i k : Nat) (w : Word) (h : k ≠ i) :
    (m.writeTable i w).readTable k = m.readTable k := by
  unfold Memory.writeTable Memory.readTable
  split
  · rw [cellRead_cellErase_other _ _ _ h]
  · rw [cellRead_cellWrite_other _ _ _ _ h]

@[simp] theorem readOutbuf_writeOutbuf_same (m : Memory) (k : Nat) (w : Word) :
    (m.writeOutbuf k w).readOutbuf k = some w := cellRead_cellWrite_same _ _ _

theorem readOutbuf_writeOutbuf_other (m : Memory) (k j : Nat) (w : Word) (h : j ≠ k) :
    (m.writeOutbuf k w).readOutbuf j = m.readOutbuf j := cellRead_cellWrite_other _ _ _ _ h

@[simp] theorem writeTable_outbuf (m : Memory) (i : Nat) (w : Word) : (m.writeTable i w).outbuf = m.outbuf := by
  unfold Memory.writeTable; split <;> rfl

@[simp] theorem zeroTable_outbuf (m : Memory) : m.zeroTable.outbuf = m.outbuf := rfl

@[simp] theorem writeOutbuf_table (m : Memory) (k : Nat) (w : Word) : (m.writeOutbuf k w).table = m.table := rfl

/-! ### The push -/

/-- What a push can do: record a code, or append its entry and answer OK (60_exceptions.md R105). -/
theorem pushCommand_cases (check : Option Code) (e : QEntry) (s : State) :
    (∃ c, check = some c ∧ pushCommand check e s = record .cmdOp c s) ∨
      (check = none ∧ s.queue.length = s.params.cmdqDepth ∧
        pushCommand check e s = record .cmdOp .queueFull s) ∨
      (pushAccepted check s ∧
        pushCommand check e s = { s with queue := s.queue ++ [e], cmdResult := 0 }) := by
  cases check with
  | some c => exact .inl ⟨c, rfl, rfl⟩
  | none =>
    by_cases h : s.queue.length = s.params.cmdqDepth
    · exact .inr (.inl ⟨rfl, h, by simp [pushCommand, h]⟩)
    · exact .inr (.inr ⟨⟨rfl, h⟩, by simp [pushCommand, h, setResult, codeByte, codeNum]⟩)

/-- An accepted push. -/
theorem pushCommand_accepted {check : Option Code} {s : State} (e : QEntry) (h : pushAccepted check s) :
    pushCommand check e s = { s with queue := s.queue ++ [e], cmdResult := 0 } := by
  obtain ⟨rfl, h⟩ := h
  simp [pushCommand, h, setResult, codeByte, codeNum]

/-! ### Applying the queue -/

/-- Applying a command changes the voices, the published table and the envelope steps only. -/
theorem applyEntry_frame (s : State) (e : QEntry) :
    ∃ vs n m a r, applyEntry s e =
      { s with voices := vs, tableSize := n, mem := m, attackStep := a, releaseStep := r } := by
  unfold applyEntry
  split <;> exact ⟨_, _, _, _, _, rfl⟩

/-- Applying commands in order changes the same fields only. -/
theorem foldl_applyEntry_frame (q : List QEntry) (s : State) :
    ∃ vs n m a r, q.foldl applyEntry s =
      { s with voices := vs, tableSize := n, mem := m, attackStep := a, releaseStep := r } := by
  induction q generalizing s with
  | nil => exact ⟨_, _, _, _, _, rfl⟩
  | cons e q ih =>
    obtain ⟨vs, n, m, a, r, h⟩ := applyEntry_frame s e
    obtain ⟨vs', n', m', a', r', h'⟩ := ih (applyEntry s e)
    exact ⟨vs', n', m', a', r', by rw [List.foldl_cons, h', h]⟩

/-- What draining the queue changes (42_render.md R90). -/
theorem applyAll_frame (s : State) :
    ∃ vs n m a r, applyAll s =
      { s with voices := vs, tableSize := n, mem := m, attackStep := a, releaseStep := r, queue := [] } := by
  obtain ⟨vs, n, m, a, r, h⟩ := foldl_applyEntry_frame s.queue s
  exact ⟨vs, n, m, a, r, by rw [applyAll, h]⟩

/-- No queued command touches the output buffer. -/
theorem applyEntry_outbuf (s : State) (e : QEntry) : (applyEntry s e).mem.outbuf = s.mem.outbuf := by
  unfold applyEntry; split <;> simp

theorem applyAll_outbuf (s : State) : (applyAll s).mem.outbuf = s.mem.outbuf := by
  have h : ∀ (q : List QEntry) (t : State), (q.foldl applyEntry t).mem.outbuf = t.mem.outbuf := by
    intro q
    induction q with
    | nil => exact fun _ => rfl
    | cons e q ih => exact fun t => by rw [List.foldl_cons, ih, applyEntry_outbuf]
  exact h s.queue s

/-! ### The engine and the step -/

/-- The engine's turn: nothing while BUSY = 0, a frame step while BUSY = 1 (42_render.md R91). -/
theorem frameStep_cases (s : State) :
    (s.busy = false ∧ frameStep s = s) ∨ (s.busy = true ∧ frameStep s = frameBody s) := by
  cases h : s.busy <;> simp [frameStep, h]

/-- Every instruction answers a next state: none faults or is refused. -/
theorem exec_next (i : Instr) (s : State) : ∃ t, exec i s = .next t := by
  cases i <;>
    simp only [exec, execNop, execConfigure, execWrsample, execActivate, execRelease, execSilence,
      execResetAll, execSetEnv, execRender, execProbe] <;>
    first
    | exact ⟨_, rfl⟩
    | (split <;> exact ⟨_, rfl⟩)

/-- What an admitted write can do: run an instruction, be rejected, or write a register. -/
theorem writeEffect_cases (r : Reg) (d : Word) (s : State) :
    (∃ port i, portOf r = some port ∧ decode port d s.cmdArg0 s.cmdArg1 = .ok i ∧
      writeEffect r d s = exec i s) ∨
    (∃ port e, portOf r = some port ∧ decode port d s.cmdArg0 s.cmdArg1 = .error e ∧
      writeEffect r d s = .next (record port (wordErrorCode e) s)) ∨
    (portOf r = none ∧ writeEffect r d s = .next (s.writeReg r d)) := by
  cases hp : portOf r with
  | none => exact .inr (.inr ⟨rfl, by simp [writeEffect, hp]⟩)
  | some port =>
    cases hd : decode port d s.cmdArg0 s.cmdArg1 with
    | ok i => exact .inl ⟨port, i, rfl, hd, by simp [writeEffect, hp, issue, hd]⟩
    | error e => exact .inr (.inl ⟨port, e, rfl, hd, by simp [writeEffect, hp, issue, hd]⟩)

/-- What a step that answers a next state is: the engine's turn, an admitted read, an admitted write, or
reset (20_memory.md R60). -/
theorem step_cases {s t : State} (h : step s = .next t) :
    (s.inputs = [] ∧ t = frameStep s) ∨
    (∃ rest, s.inputs = .frame :: rest ∧ t = frameStep { s with inputs := rest }) ∨
    (∃ rest, s.inputs = .reset :: rest ∧ t = resetStep { s with inputs := rest }) ∨
    (∃ rest off size r, s.inputs = .read off size :: rest ∧ accessReg s.params off size 0xF = .ok r ∧
      t = { s with inputs := rest, resp := .readOkay (s.readReg r) }) ∨
    (∃ rest off size lanes d r, s.inputs = .write off size lanes d :: rest ∧
      accessReg s.params off size lanes = .ok r ∧
      writeEffect r d { s with inputs := rest, resp := .writeOkay } = .next t) := by
  have hread : ∀ r (rest : List Input), State.readReg { s with inputs := rest } r = s.readReg r := by
    intro r rest; cases r <;> rfl
  unfold step stepState at h
  split at h
  · cases h; exact .inl ⟨‹_›, rfl⟩
  · rename_i i rest hi
    cases i with
    | frame => cases h; exact .inr (.inl ⟨rest, hi, rfl⟩)
    | reset => cases h; exact .inr (.inr (.inl ⟨rest, hi, rfl⟩))
    | read off size =>
      simp only [stepInput, busRead] at h
      split at h
      · cases h
      · rename_i r hr
        cases h
        exact .inr (.inr (.inr (.inl ⟨rest, off, size, r, hi, hr, by rw [hread]⟩)))
    | write off size lanes d =>
      simp only [stepInput, busWrite] at h
      split at h
      · cases h
      · rename_i r hr
        exact .inr (.inr (.inr (.inr ⟨rest, off, size, lanes, d, r, hi, hr, h⟩)))

end Sys2Proof.Machine
end

