-- ==== Sys2Proof/Laws/Access.lean ====
section
/-! SUPPORT. What a bus access can do, said once. -/

namespace Sys2Proof.Machine

/-- A full write to an instruction register reaches its port. -/
theorem accessReg_portOffset (p : Params) (port : Port) :
    ∃ r, accessReg p (portOffset port) .bits32 0xF = .ok r ∧ portOf r = some port := by
  cases port
  · exact ⟨.cmdOp, rfl, rfl⟩
  · exact ⟨.renderCtrl, rfl, rfl⟩
  · exact ⟨.probePhase, rfl, rfl⟩

/-- The step of a full write to an instruction register. -/
theorem step_portWrite {s : State} {port : Port} {d : Word} {rest : List Input}
    (h : s.inputs = fullWrite (portOffset port) d :: rest) :
    step s = issue port d { s with inputs := rest, resp := .writeOkay } := by
  have hs : step s = stepInput (fullWrite (portOffset port) d) { s with inputs := rest } := by
    simp only [step, stepState, h]
  rw [hs]
  cases port <;> rfl

/-- An access is admitted exactly when its offset is aligned, its size is 32 bits with all lanes, and the
offset is mapped (20_memory.md R55). -/
theorem accessReg_ok_iff (p : Params) (off : Offset) (size : AccessSize) (lanes : BitVec 4) (r : Reg) :
    accessReg p off size lanes = .ok r ↔
      off.toNat % 4 = 0 ∧ size = .bits32 ∧ lanes = 0xF ∧ regAt p off.toNat = some r := by
  unfold accessReg
  by_cases h1 : off.toNat % 4 = 0
  · by_cases h2 : size = .bits32 <;> by_cases h3 : lanes = 0xF <;>
      cases h4 : regAt p off.toNat <;> simp_all
  · simp [h1]

/-- The step of a full write to a mapped, aligned offset is the effect on the register there. -/
theorem step_fullWrite {s : State} {off : Offset} {r : Reg} {d : Word} {rest : List Input}
    (h : s.inputs = fullWrite off d :: rest) (ha : off.toNat % 4 = 0) (hr : regAt s.params off.toNat = some r) :
    step s = writeEffect r d { s with inputs := rest, resp := .writeOkay } := by
  have hk := (accessReg_ok_iff s.params off .bits32 0xF r).2 ⟨ha, rfl, rfl, hr⟩
  simp only [step, stepState, h, fullWrite, stepInput, busWrite, hk]

/-- The register an instruction register's write reaches is at that register's offset. -/
theorem portOf_eq_some {r : Reg} {port : Port} (h : portOf r = some port) :
    (r = .cmdOp ∧ port = .cmdOp) ∨ (r = .renderCtrl ∧ port = .renderCtrl) ∨
      (r = .probePhase ∧ port = .probePhase) := by
  cases r <;> simp_all [portOf]

/-- A register write changes the argument latches, ERROR, IRQ_STATUS and IRQ_ENABLE only. -/
theorem writeReg_frame (s : State) (r : Reg) (d : Word) :
    ∃ a0 a1 e q n, s.writeReg r d =
      { s with cmdArg0 := a0, cmdArg1 := a1, error := e, irqStatus := q, irqEnable := n } := by
  cases r <;> exact ⟨_, _, _, _, _, rfl⟩

/-- Starting a block touches the sequencer, RENDER_RESULT and IRQ_STATUS only. -/
theorem startBlock_frame (n : BitVec 16) (s : State) :
    ∃ b d q, startBlock n s =
      { s with
        busy := b, done := d, irqStatus := q, frameIdx := 0, lastBlockFrames := n.extractLsb' 0 13,
        renderResult := 0 } := by
  unfold startBlock
  dsimp only
  split <;> exact ⟨_, _, _, rfl⟩

/-- A RENDER is rejected, or starts a block on the applied queue. -/
theorem execRender_cases (n : BitVec 16) (s : State) :
    (∃ c, renderCheck n s = some c ∧ execRender n s = .next (record .renderCtrl c s)) ∨
      (s.busy = false ∧ n.toNat ≤ s.params.outbufFrames ∧
        execRender n s = .next (startBlock n (applyAll s))) := by
  cases hc : renderCheck n s with
  | some c => exact .inl ⟨c, rfl, by simp [execRender, hc]⟩
  | none =>
    have hb : s.busy = false ∧ n.toNat ≤ s.params.outbufFrames := by
      unfold renderCheck at hc
      cases hb : s.busy <;> simp_all
    exact .inr ⟨hb.1, hb.2, by simp [execRender, hc]⟩

/-- What an instruction's access leaves alone: everything but the queue, CTL_TABLE_SIZE, the results, ERROR
and IRQ_STATUS, for every instruction except RENDER and PROBE. -/
theorem exec_command_frame {i : Instr} {s t : State} (hp : i.port = .cmdOp) (h : exec i s = .next t) :
    ∃ q n c e f, t =
      { s with queue := q, ctlTableSize := n, cmdResult := c, error := e, irqStatus := f } := by
  have push : ∀ (check : Option Code) (e : QEntry), ∃ q n c x f, pushCommand check e s =
      { s with queue := q, ctlTableSize := n, cmdResult := c, error := x, irqStatus := f } := by
    intro check e
    rcases pushCommand_cases check e s with ⟨c, -, h⟩ | ⟨-, -, h⟩ | ⟨-, h⟩ <;>
      exact ⟨_, _, _, _, _, h⟩
  cases i with
  | nop => cases h; exact push _ _
  | wrsample i w => cases h; exact push _ _
  | release s => cases h; exact push _ _
  | silence s => cases h; exact push _ _
  | resetAll => cases h; exact push _ _
  | setEnv a r => cases h; exact push _ _
  | configure n =>
    obtain ⟨q, m, c, x, f, hpush⟩ := push (configureCheck n s) (entryFC 0x01 n s)
    simp only [exec, execConfigure] at h
    split at h <;> cases h <;> rw [hpush] <;> exact ⟨_, _, _, _, _, rfl⟩
  | activate slot note vel inc =>
    obtain ⟨q, m, c, x, f, hpush⟩ := push (activateCheck slot inc s) (entryFA 0x03 slot note vel inc)
    simp only [exec, execActivate] at h
    split at h <;> cases h <;> rw [hpush] <;> exact ⟨_, _, _, _, _, rfl⟩
  | render n => cases hp
  | probe p => cases hp

end Sys2Proof.Machine
end

