-- ==== Sys2Proof/Laws/Firmware.lean ====
section
/-! SUPPORT. What the firmware's shared operations can do, said once. -/

namespace Sys2Proof.Machine

/-- An event pushes all its commands into a queue with room for them, or waits (R102). -/
theorem pushIfRoom_cases (p : Params) (v : FirmwareView) (cmds : List Instr) (fw : Firmware) :
    (v.level + cmds.length ≤ p.cmdqDepth ∧ pushIfRoom p v cmds fw = .pushes cmds fw) ∨
      (p.cmdqDepth < v.level + cmds.length ∧ pushIfRoom p v cmds fw = .wait) := by
  unfold pushIfRoom
  split
  · exact .inl ⟨‹_›, rfl⟩
  · exact .inr ⟨by omega, rfl⟩

/-- What a push that is not a wait pushed, and what it left of the firmware. -/
theorem pushIfRoom_eq_pushes {p : Params} {v : FirmwareView} {cmds out : List Instr} {fw fw' : Firmware}
    (h : pushIfRoom p v cmds fw = .pushes out fw') :
    out = cmds ∧ fw' = fw ∧ v.level + cmds.length ≤ p.cmdqDepth := by
  rcases pushIfRoom_cases p v cmds fw with ⟨hroom, he⟩ | ⟨-, he⟩ <;> rw [he] at h <;> cases h
  exact ⟨rfl, rfl, hroom⟩

/-- An event of more commands than the queue holds always waits (log 23). -/
theorem pushIfRoom_of_depth_lt {p : Params} {cmds : List Instr} (h : p.cmdqDepth < cmds.length)
    (v : FirmwareView) (fw : Firmware) : pushIfRoom p v cmds fw = .wait := by
  rcases pushIfRoom_cases p v cmds fw with ⟨hroom, -⟩ | ⟨-, he⟩
  · omega
  · exact he

/-- The increment of an existing quotient (R95). -/
theorem incOfFreq_of_pos {n d sr : Nat} (hd : 0 < d) (hs : 0 < sr) :
    incOfFreq n d sr = BitVec.ofNat 32 (roundHalfEven (n * 2 ^ 32) (d * sr)) :=
  if_neg (Nat.mul_pos hd hs).ne'

/-- Without a sample rate above 0 the increment is 0 (log 21). -/
@[simp] theorem incOfFreq_rate_zero (n d : Nat) : incOfFreq n d 0 = 0 := by simp [incOfFreq]

/-- Without a sample rate above 0 the increment is 0 (log 21). -/
@[simp] theorem incOfNote_rate_zero (note : BitVec 16) : incOfNote note 0 = 0 := by simp [incOfNote]

@[simp] theorem toWord_number (q : ℚ) : (SampleValue.number q).toWord = rne32 q.num q.den := rfl
@[simp] theorem toWord_word (w : Word) : (SampleValue.word w).toWord = w := rfl

end Sys2Proof.Machine
end

