-- ==== Sys2Proof/Laws/PerInstr.lean ====
section
/-! SUPPORT. Families of facts about every instruction as syntax, one lemma per constructor. -/

namespace Sys2Proof.Laws

/-- The encoding has the length of its form: a command is three words, a trigger one (30_encoding.md R66,
R67, R71). -/
def EncodedLength.Statement (i : Instr) : Prop :=
  (encodeBytes i).length = if i.port = .cmdOp then 12 else 4

theorem EncodedLength.nop : EncodedLength.Statement .nop := rfl

theorem EncodedLength.configure (n : Word) : EncodedLength.Statement (.configure n) := rfl

theorem EncodedLength.wrsample (i w : Word) : EncodedLength.Statement (.wrsample i w) := rfl

theorem EncodedLength.activate (s : Byte) (note : BitVec 16) (vel : Byte) (inc : Word) :
    EncodedLength.Statement (.activate s note vel inc) := rfl

theorem EncodedLength.release (s : Byte) : EncodedLength.Statement (.release s) := rfl

theorem EncodedLength.silence (s : Byte) : EncodedLength.Statement (.silence s) := rfl

theorem EncodedLength.resetAll : EncodedLength.Statement .resetAll := rfl

theorem EncodedLength.setEnv (a r : BitVec 25) : EncodedLength.Statement (.setEnv a r) := rfl

theorem EncodedLength.render (n : BitVec 16) : EncodedLength.Statement (.render n) := rfl

theorem EncodedLength.probe (p : Word) : EncodedLength.Statement (.probe p) := rfl

end Sys2Proof.Laws
end

