-- ==== Sys2Proof/Laws/Voices.lean ====
section
/-! SUPPORT. What the voice, lookup and frame operations can do, said once. -/

namespace Sys2Proof.Machine

/-! ### One voice of the array -/

/-- updateVoice changes the slot it names and no other. -/
theorem updateVoice_get (s : State) (v n : Nat) (f : Voice → Voice) :
    (s.updateVoice v f).voices[n]? = if v = n then (s.voices[n]?).map f else s.voices[n]? := by
  rw [updateVoice_voices, List.getElem?_modify]
  split <;> simp

theorem updateVoice_length (s : State) (v : Nat) (f : Voice → Voice) :
    (s.updateVoice v f).voices.length = s.voices.length := by simp

/-- A voice of the array after an update is an old voice or what the update makes of one. -/
theorem mem_updateVoice {s : State} {v : Nat} {f : Voice → Voice} {x : Voice}
    (h : x ∈ (s.updateVoice v f).voices) : x ∈ s.voices ∨ ∃ y ∈ s.voices, x = f y := by
  obtain ⟨n, hn⟩ := List.mem_iff_getElem?.1 h
  rw [updateVoice_get] at hn
  split at hn
  · obtain ⟨y, hy, rfl⟩ := Option.map_eq_some_iff.1 hn
    exact .inr ⟨y, List.mem_iff_getElem?.2 ⟨n, hy⟩, rfl⟩
  · exact .inl (List.mem_iff_getElem?.2 ⟨n, hn⟩)

/-! ### The envelope step, stage by stage -/

theorem envStep_idle {v : Voice} (a r : BitVec 25) (h : v.stage = .idle) : v.envStep a r = v := by
  simp [Voice.envStep, h]

theorem envStep_sustain {v : Voice} (a r : BitVec 25) (h : v.stage = .sustain) : v.envStep a r = v := by
  simp [Voice.envStep, h]

/-- A level of at most 2^24 fits 25 bits. -/
theorem level_toNat {n : Nat} (h : n ≤ Config.envOne) : (BitVec.ofNat 25 n).toNat = n := by
  rw [BitVec.toNat_ofNat]
  exact Nat.mod_eq_of_lt (lt_of_le_of_lt h (by decide))

theorem envStep_attack_level {v : Voice} (a r : BitVec 25) (h : v.stage = .attack) :
    (v.envStep a r).env.toNat = min (v.env.toNat + a.toNat) Config.envOne := by
  simp only [Voice.envStep, h]
  exact level_toNat (Nat.min_le_right _ _)

theorem envStep_attack_stage {v : Voice} (a r : BitVec 25) (h : v.stage = .attack) :
    (v.envStep a r).stage = if Config.envOne ≤ v.env.toNat + a.toNat then .sustain else .attack := by
  simp only [Voice.envStep, h]
  by_cases hle : Config.envOne ≤ v.env.toNat + a.toNat
  · simp [hle]
  · have hne : ¬ min (v.env.toNat + a.toNat) Config.envOne = Config.envOne := by omega
    rw [if_neg hle, if_neg hne]

theorem envStep_release_level {v : Voice} (a r : BitVec 25) (h : v.stage = .release) :
    (v.envStep a r).env.toNat = v.env.toNat - r.toNat := by
  simp only [Voice.envStep, h]
  rw [BitVec.toNat_ofNat]
  exact Nat.mod_eq_of_lt (lt_of_le_of_lt (Nat.sub_le _ _) v.env.isLt)

theorem envStep_release_stage {v : Voice} (a r : BitVec 25) (h : v.stage = .release) :
    (v.envStep a r).stage = if v.env.toNat ≤ r.toNat then .idle else .release := by
  simp only [Voice.envStep, h]
  by_cases hle : v.env.toNat ≤ r.toNat
  · rw [if_pos hle, if_pos (by omega)]
  · rw [if_neg hle, if_neg (by omega)]

@[simp] theorem envStep_note (v : Voice) (a r : BitVec 25) : (v.envStep a r).note = v.note := by
  unfold Voice.envStep; split <;> rfl

@[simp] theorem envStep_vel (v : Voice) (a r : BitVec 25) : (v.envStep a r).vel = v.vel := by
  unfold Voice.envStep; split <;> rfl

@[simp] theorem envStep_phase (v : Voice) (a r : BitVec 25) : (v.envStep a r).phase = v.phase := by
  unfold Voice.envStep; split <;> rfl

@[simp] theorem envStep_inc (v : Voice) (a r : BitVec 25) : (v.envStep a r).inc = v.inc := by
  unfold Voice.envStep; split <;> rfl

/-! ### Lookup, sample, frame: what they depend on -/

/-- A lookup depends on the phase and the published table only (40_table.md R78 (d)). -/
theorem lookup_congr {s t : State} (p : Word) (hn : s.tableSize = t.tableSize)
    (hm : s.mem.table = t.mem.table) : s.lookup p = t.lookup p := by
  simp only [State.lookup, Memory.readTable, hn, hm]

/-- A voice's frame depends on the voice, the published table and the envelope steps only. -/
theorem voiceFrame_congr {s t : State} (v : Voice) (hn : s.tableSize = t.tableSize)
    (hm : s.mem.table = t.mem.table) (ha : s.attackStep = t.attackStep)
    (hr : s.releaseStep = t.releaseStep) : s.voiceFrame v = t.voiceFrame v := by
  simp only [State.voiceFrame, State.voiceSample, lookup_congr _ hn hm, ha, hr]

/-- An Idle voice is left alone and adds nothing to a frame. -/
theorem voiceFrame_idle (s : State) {v : Voice} (h : v.stage = .idle) : s.voiceFrame v = (v, 0) := by
  simp [State.voiceFrame, Voice.active, h]

theorem voiceFrame_active (s : State) {v : Voice} (h : v.stage ≠ .idle) :
    s.voiceFrame v = ((s.voiceSample v).1, f32units (s.voiceSample v).2) := by
  simp [State.voiceFrame, Voice.active, h]

/-- A frame step leaves the table, the envelope steps, the command interface, the probe and the errors. -/
theorem frameBody_frame (s : State) :
    ∃ vs m q b d, frameBody s =
      { s with
        voices := vs, mem := m, irqStatus := q, busy := b, done := d, frameCount := s.frameCount + 1,
        frameIdx := s.frameIdx + 1 } ∧ m.table = s.mem.table := by
  unfold frameBody
  dsimp only
  split
  · exact ⟨_, _, _, _, _, rfl, rfl⟩
  · exact ⟨_, _, _, _, _, rfl, rfl⟩

/-- The frame's output word, and no other entry (42_render.md R91). -/
theorem frameBody_readOutbuf (s : State) (k : Nat) :
    (frameBody s).mem.readOutbuf k =
      (s.mem.writeOutbuf s.frameIdx.toNat (mix s.frameSum)).readOutbuf k := by
  unfold frameBody
  dsimp only
  split <;> rfl

theorem frameBody_voices (s : State) : (frameBody s).voices = s.voices.map (fun v => (s.voiceFrame v).1) := by
  unfold frameBody
  dsimp only
  split <;> rfl

end Sys2Proof.Machine
end

