-- ==== Sys2Proof/Tests/Slice0.lean ====
section
/-! SUPPORT. Tests with expected results from spec/95_test_vectors.md and hand calculation, and a witness for
the hypotheses of each statement. -/

namespace Sys2Proof.Machine.Tests

/-! ### Operand legality: one ill-formed term per check, refused -/

theorem test_wf_configure_zero : (Instr.configure 0).wellFormed Params.default = false := by decide
theorem test_wf_configure_large : (Instr.configure 4097).wellFormed Params.default = false := by decide
theorem test_wf_wrsample_large : (Instr.wrsample 4096 0).wellFormed Params.default = false := by decide
theorem test_wf_activate_slot : (Instr.activate 16 60 0 1).wellFormed Params.default = false := by decide
theorem test_wf_activate_inc : (Instr.activate 0 60 0 0).wellFormed Params.default = false := by decide
theorem test_wf_release_slot : (Instr.release 16).wellFormed Params.default = false := by decide
theorem test_wf_silence_slot : (Instr.silence 255).wellFormed Params.default = false := by decide
theorem test_wf_setEnv_attack_zero : (Instr.setEnv 0 1).wellFormed Params.default = false := by decide
theorem test_wf_setEnv_attack_large : (Instr.setEnv 0x1000001 1).wellFormed Params.default = false := by decide
theorem test_wf_setEnv_release_zero : (Instr.setEnv 1 0).wellFormed Params.default = false := by decide
theorem test_wf_setEnv_release_large : (Instr.setEnv 1 0x1000001).wellFormed Params.default = false := by decide
theorem test_wf_render_large : (Instr.render 4097).wellFormed Params.default = false := by decide
theorem test_wf_boundary :
    (Instr.configure 4096).wellFormed Params.default = true ∧
    (Instr.setEnv 0x1000000 0x1000000).wellFormed Params.default = true ∧
    (Instr.render 4096).wellFormed Params.default = true ∧
    (Instr.activate 15 0xFFFF 255 0xFFFFFFFF).wellFormed Params.default = true := by decide

/-! ### Decoding: words written out from the fields of 30_encoding.md R66, R67 and R69 -/

/-- Reserved 00000000, VEL 00000000, SLOT 00000000, OPCODE 00000000. -/
theorem test_decode_nop :
    decode .cmdOp (0b00000000_00000000_00000000_00000000) 7 9 = .ok .nop := by rfl
theorem test_decode_configure :
    decode .cmdOp (0b00000000_00000000_00000000_00000001) 4 9 = .ok (.configure 4) := by rfl
theorem test_decode_wrsample :
    decode .cmdOp (0b00000000_00000000_00000000_00000010) 1 0x3F800000 = .ok (.wrsample 1 0x3F800000) := by rfl
/-- VEL 127, SLOT 0, OPCODE 3 (30_encoding.md R73). -/
theorem test_decode_activate :
    decode .cmdOp (0b00000000_01111111_00000000_00000011) 0x00000045 0x028DDFB9 =
      .ok (.activate 0 69 127 0x028DDFB9) := by rfl
theorem test_decode_release :
    decode .cmdOp (0b00000000_00000000_00000001_00000100) 7 9 = .ok (.release 1) := by rfl
theorem test_decode_silence :
    decode .cmdOp (0b00000000_00000000_00000011_00000101) 7 9 = .ok (.silence 3) := by rfl
theorem test_decode_resetAll :
    decode .cmdOp (0b00000000_00000000_00000000_00000110) 7 9 = .ok .resetAll := by rfl
theorem test_decode_setEnv :
    decode .cmdOp (0b00000000_00000000_00000000_00000111) 0x00800000 0x00400000 =
      .ok (.setEnv 0x800000 0x400000) := by rfl
theorem test_decode_render :
    decode .renderCtrl (0b00000000_00000000_00010000_00000000) 7 9 = .ok (.render 4096) := by rfl
theorem test_decode_probe : decode .probePhase 0xE0000000 7 9 = .ok (.probe 0xE0000000) := by rfl

/-- The rows of T-PUSH that a word alone is rejected for, and a RENDER_CTRL word with a non-zero upper half. -/
theorem test_decode_refusals :
    decode .cmdOp 0x00000101 4 0 = .error .reservedField ∧
    decode .cmdOp 0x01000004 0 0 = .error .reservedField ∧
    decode .cmdOp 0x00010004 0 0 = .error .reservedField ∧
    decode .cmdOp 0x00000007 0x02000000 1 = .error .reservedField ∧
    decode .cmdOp 0x00000106 0 0 = .error .reservedField ∧
    decode .cmdOp 0x00000008 0 0 = .error .illegalOpcode ∧
    decode .cmdOp 0xFFFFFF08 0 0 = .error .illegalOpcode ∧
    decode .cmdOp 0x00FF0F03 0x00010000 0xFFFFFFFF = .error .reservedField ∧
    decode .renderCtrl 0x00010000 0 0 = .error .reservedField := by
  exact ⟨rfl, rfl, rfl, rfl, rfl, rfl, rfl, rfl, rfl⟩

/-- A command's bytes are OP, A0, A1, each little-endian (20_memory.md R54). -/
theorem test_decode_bytes :
    decodeBytes .cmdOp [0x03, 0x00, 0x7F, 0x00, 0x45, 0x00, 0x00, 0x00, 0xB9, 0xDF, 0x8D, 0x02] =
      .ok (.activate 0 69 127 0x028DDFB9) := by rfl
theorem test_decode_bytes_short : decodeBytes .cmdOp [0x03, 0x00] = .error .wrongLength := by rfl

/-- The opcode table's words (spec/opcode_table.json). -/
theorem test_table_words :
    decodeTableWord 32 0 = some .nop ∧ decodeTableWord 32 3 = some (.activate 0 0 0 0) ∧
    decodeTableWord 32 0x0000FF10 = some (.render 0xFF10) ∧
    decodeTableWord 32 0xE0000000 = some (.probe 0xE0000000) := by
  exact ⟨rfl, rfl, rfl, rfl⟩

/-! ### Small states -/

/-- Two voices, tables of up to 8 words, two queue entries, four frames. -/
def small : Params := { numVoices := 2, tableMax := 8, cmdqDepth := 2, outbufFrames := 4 }

/-- The small block after reset. -/
def base : State := State.resetWith small

/-- The small block with one command queued and a table of 4 words announced. -/
def queued : State := { base with
    queue := [{ opcode := 1, slot := 0, vel := 0, arg0 := 4, arg1 := 0 }]
    ctlTableSize := 4 }

/-- Table [0, 1, 0, -1] of Program 1 published. -/
def tabled : State :=
  { base with
    tableSize := 4
    ctlTableSize := 4
    mem := { table := [(1, 0x3F800000), (3, 0xBF800000)], outbuf := [] } }

/-- A voice of Program 1 in Sustain. -/
def sounding : Voice :=
  { stage := .sustain, note := 69, vel := 255, phase := 0x80000000, inc := 0x40000000, env := 0x1000000 }

/-- A block of two frames rendering on `tabled`, slot 0 sounding. -/
def rendering : State :=
  { tabled with voices := [sounding, Voice.reset], busy := true, lastBlockFrames := 2 }

/-- The state a step answers, the state before it when the step stops. -/
def after (s : State) (xs : List Input) : State :=
  match step { s with inputs := xs } with
  | .next t => t
  | .fault _ => s
  | .refused _ => s

/-! ### One step each (95_test_vectors.md) -/

/-- T-NOP-1. -/
theorem test_nop : (after base (asm .nop)).cmdResult = 0 ∧ (after base (asm .nop)).queue.length = 1 := by decide
/-- T-PUSH-29: a third NOP in a queue of two. -/
theorem test_nop_full :
    let s : State := { base with queue := [entryFN 0 base, entryFN 0 base] }
    (after s (asm .nop)).cmdResult = 7 ∧ (after s (asm .nop)).error = 0x040 := by decide
/-- T-CONF-1. -/
theorem test_configure :
    let t := after { base with cmdArg0 := 4 } (asmWr 0x0048 1)
    t.cmdResult = 0 ∧ t.tableSize = 0 ∧ t.ctlTableSize = 4 := by decide
/-- T-PUSH-1. -/
theorem test_configure_zero : (after base (asmWr 0x0048 1)).cmdResult = 1 := by decide
/-- T-PUSH-6. -/
theorem test_wrsample_range :
    (after { tabled with cmdArg0 := 4 } (asmWr 0x0048 2)).cmdResult = 2 ∧
      (after { tabled with cmdArg0 := 3 } (asmWr 0x0048 2)).cmdResult = 0 := by decide
/-- T-PUSH-26. -/
theorem test_activate_warning :
    let t := after { base with cmdArg0 := 69, cmdArg1 := 0x028DDFB9 } (asmWr 0x0048 0x00640003)
    t.cmdResult = 3 ∧ t.queue.length = 1 ∧ t.error = 0x004 ∧ t.irqStatus = 2 := by decide
/-- T-PUSH-23 and T-PUSH-24: reserved before slot, slot before increment. -/
theorem test_activate_order :
    (after { base with cmdArg0 := 0x10000 } (asmWr 0x0048 0x00FF1003)).cmdResult = 9 ∧
      (after { base with cmdArg0 := 0x3C } (asmWr 0x0048 0x00FF1003)).cmdResult = 4 := by decide
/-- T-PUSH-25 and T-PUSH-18: the increment check, and an illegal opcode. -/
theorem test_increment_and_opcode :
    let t := after { base with cmdArg0 := 0x3C } (asmWr 0x0048 0x00FF0003)
    let u := after base (asmWr 0x0048 0x00000008)
    t.cmdResult = 5 ∧ t.error = 0x010 ∧ u.cmdResult = 8 ∧ u.error = 0x080 := by decide
/-- T-PUSH-9. -/
theorem test_release_slot : (after base (asmWr 0x0048 0x00000204)).cmdResult = 4 := by decide
/-- T-PUSH-11. -/
theorem test_silence_slot : (after base (asmWr 0x0048 0x0000FF05)).cmdResult = 4 := by decide
/-- T-PUSH-17. -/
theorem test_resetAll_reserved : (after base (asmWr 0x0048 0x00000106)).cmdResult = 9 := by decide
/-- T-PUSH-14 and T-PUSH-15. -/
theorem test_setEnv_range :
    (after { base with cmdArg1 := 1 } (asmWr 0x0048 7)).cmdResult = 6 ∧
      (after { base with cmdArg0 := 1, cmdArg1 := 0x01000001 } (asmWr 0x0048 7)).cmdResult = 6 := by decide
/-- T-RND-2: the sync point. -/
theorem test_render_zero :
    let t := after queued (asmWr 0x0050 0)
    t.renderResult = 0 ∧ t.busy = false ∧ t.done = true ∧ t.irqStatus = 1 ∧ t.queue = [] ∧ t.tableSize = 4 := by
  decide
/-- T-RND-4: too many frames, the queue not drained. -/
theorem test_render_large :
    let t := after queued (asmWr 0x0050 5)
    t.renderResult = 11 ∧ t.queue.length = 1 ∧ t.error = 0x400 := by decide
/-- T-LK-4 (40_table.md R79's example). -/
theorem test_probe : (after tabled (asmWr 0x0060 0xE0000000)).probeResult = 0xBF000000 := by decide
/-- T-LK-31. -/
theorem test_probe_busy :
    let t := after rendering (asmWr 0x0060 1)
    t.probeStatus = 10 ∧ t.probePhase = 0 ∧ t.error = 0x200 := by decide

/-- T-ACT-1 after its SYNC: the applied ACTIVATE. -/
theorem test_apply_activate :
    (applyActivate { opcode := 3, slot := 1, vel := 127, arg0 := 69, arg1 := 0x028DDFB9 } base).voices =
      [Voice.reset, { stage := .attack, note := 69, vel := 127, phase := 0, inc := 0x028DDFB9, env := 0 }] := by
  decide
/-- T-REL-1 and T-REL-4: RELEASE of an Idle or a Release voice is a no-op. -/
theorem test_apply_release :
    Voice.reset.release = Voice.reset ∧ (sounding.release).stage = .release := by decide
/-- T-SIL-1: note, velocity, phase and increment are kept. -/
theorem test_apply_silence : sounding.silence = { sounding with stage := .idle, env := 0 } := by decide
/-- T-CONF-6's second CONFIGURE: the table is zero again. -/
theorem test_apply_configure :
    (applyConfigure { opcode := 1, slot := 0, vel := 0, arg0 := 4, arg1 := 0 } tabled).mem.readTable 1 = 0 := by
  decide
/-- Program 1, frame 2 of the first block: phase 0xC0000000, lookup -1.0 at full level. -/
theorem test_frame :
    (frameStep rendering).mem.outbuf = [(0, 0xBF800000)] ∧ (frameStep rendering).frameCount = 1 ∧
      ((frameStep rendering).voices.map Voice.phase) = [0xC0000000, 0] := by decide
/-- T-ACT-4: level 1/2 times 127/255, rounded once. -/
theorem test_gain : applyGain 0x3F800000 0x800000 127 = 0x3E7EFEFF := by decide
/-- T-MIX-1: 1 + 2^-23, not the pairwise sum. -/
theorem test_mix : mix (f32units 0x3F800000 + f32units 0x33800000 + f32units 0x33800000) = 0x3F800001 := by decide
/-- T-MIX-2: overflow to +infinity. -/
theorem test_mix_overflow : mix (f32units 0x7F7FFFFF + f32units 0x7F7FFFFF) = 0x7F800000 := by decide
/-- T-LK-11, T-LK-13, T-LK-15: ties to even, also below the normal range. -/
theorem test_round_ties :
    interpolate 0x3F800000 0x3F800001 (2 ^ 31) = .finite 0x3F800000 ∧
      interpolate 0x3F800001 0x3F800002 (2 ^ 31) = .finite 0x3F800002 ∧
      interpolate 0x00000003 0x00000000 (2 ^ 31) = .finite 0x00000002 := by decide
/-- T-LK-27: f = 0, but both neighbours are read. -/
theorem test_lookup_nonfinite : interpolate 0x3F800000 0xFF800000 0 = .nonfinite := by decide
/-- T-ENV-6: levels 0x1800 and 0x800, then Idle. -/
theorem test_envelope :
    let v : Voice := { sounding with stage := .release, env := 0x1800 }
    (v.envStep 1 0x1000).env = 0x800 ∧ ((v.envStep 1 0x1000).envStep 1 0x1000).stage = .idle := by decide

/-- T-BUS-1, T-BUS-2, T-BUS-5, T-BUS-6 at the default parameters. -/
theorem test_reset_reads :
    State.reset.readReg .id = 0x574F5653 ∧ State.reset.readReg .caps0 = 0x00400010 ∧
      State.reset.readReg .status = 0x00000008 ∧ State.reset.readReg .attackStep = 0x00040000 := by decide
/-- T-BUS-10 to T-BUS-15: misaligned, unmapped, and narrow accesses. -/
theorem test_bus_errors :
    accessReg Params.default 0x0002 .bits32 0xF = .error .misaligned ∧
      accessReg Params.default 0x004C .bits32 0xF = .error .unmapped ∧
      accessReg Params.default 0x1014 .bits32 0xF = .error .unmapped ∧
      accessReg Params.default 0x1200 .bits32 0xF = .error .unmapped ∧
      accessReg Params.default 0x8000 .bits32 0xF = .error .unmapped ∧
      accessReg Params.default 0x0040 .bits16 0xF = .error .narrow ∧
      accessReg Params.default 0x0040 .bits32 0x3 = .error .narrow := by
  exact ⟨rfl, rfl, rfl, rfl, rfl, rfl, rfl⟩
/-- T-PUSH-31 and T-PUSH-32. -/
theorem test_write_one_to_clear :
    (ackError 1 { base with error := 0x041 }).error = 0x040 ∧
      (ackIrq 2 { base with irqStatus := 3 }).irqStatus = 1 := by decide
/-- T-IRQ-1, T-IRQ-2 and T-PUSH-33. -/
theorem test_irq :
    State.irq { base with irqStatus := 1 } = false ∧
      State.irq { base with irqStatus := 1, irqEnable := 1 } = true ∧
      State.irq { base with irqStatus := 2, irqEnable := 2 } = true := by decide
/-- The reset step leaves what T-RST-1 says. -/
theorem test_reset_step : { resetStep rendering with epoch := 0 } = base := by decide
/-- An instruction placed by withFetchWord is run by the very next step. -/
theorem test_fetch_word :
    (after (base.withFetchWord 32 4) (base.withFetchWord 32 4).inputs).queue =
      [{ opcode := 4, slot := 0, vel := 0, arg0 := 0, arg1 := 0 }] := by decide
/-- 45_firmware_boundary.md R95: notes 60, 69 and 127 at 44100 frames per second. -/
theorem test_increments :
    incOfNote 69 44100 = 0x028DDFB9 ∧ incOfNote 60 44100 = 0x0184CBB7 ∧ incOfNote 127 44100 = 0x48D12253 := by
  decide
/-- R95's remaining values: notes 72 and 0, and 440 Hz at 48000 frames per second. -/
theorem test_increments_low_high :
    incOfNote 72 44100 = 0x0309976E ∧ incOfNote 0 44100 = 0x000C265E ∧ incOfFreq 440 1 48000 = 0x0258BF26 := by
  decide
/-- Log 21: a sample rate of 0 makes every note unplayable, one of a rational frequency too. -/
theorem test_rate_zero :
    noteOn small { masks := [0], level := 0 } 69 255 none { Firmware.start with sr := some 0 } = .unplayable ∧
      noteOn small { masks := [0], level := 0 } 60 255 none { Firmware.start with sr := some 0 } = .unplayable := by
  decide
/-- 45_firmware_boundary.md R101: a number is rounded, a word goes unchanged. -/
theorem test_table_events :
    setWaveformSample (.number (-1)) 3 = .wrsample 3 0xBF800000 ∧
      setWaveformSample (.number ⟨1, 3, by decide, by decide⟩) 0 = .wrsample 0 0x3EAAAAAB ∧
      setWaveformSample (.word 0x80000000) 1 = .wrsample 1 0x80000000 ∧ configureWaveform 4 = .configure 4 := by
  decide
/-- Log 21: no slot has an age after resetAll, and the lowest is stolen. -/
theorem test_steal_ages_tie : oldestSlot small Firmware.start = 0 := by decide
/-- Log 23: with a queue of one entry a steal waits, at level 0 too. -/
theorem test_steal_depth_one :
    startNote { small with cmdqDepth := 1 } { masks := [3], level := 0 } 64 255 1 Firmware.start = .wait := by
  decide
/-- Program 4: the third note of a two-voice block steals slot 0. -/
theorem test_steal :
    startNote small { masks := [3], level := 0 } 64 255 0x1000000
      { map := [(60, 0), (62, 1)], age := [(0, 1), (1, 2)], pend := [], lastSeq := 2, sr := some 44100 } =
      .pushes [.silence 0, .activate 0 64 255 0x1000000]
        { map := [(64, 0), (62, 1)], age := [(0, 3), (1, 2)], pend := [0], lastSeq := 3, sr := some 44100 } := by
  decide

/-! ### States that meet the statements' hypotheses -/

/-- The small block with CONFIGURE 4 and WRSAMPLE 1 queued, so that the queue is full, facing `RENDER 4`. -/
def loaded : State :=
  { base with
    queue := [{ opcode := 1, slot := 0, vel := 0, arg0 := 4, arg1 := 0 },
      { opcode := 2, slot := 0, vel := 0, arg0 := 1, arg1 := 0x3F800000 }]
    ctlTableSize := 4
    inputs := [fullWrite 0x0050 4] }

/-- `s` with one input to come. -/
def facing (s : State) (i : Input) : State := { s with inputs := [i] }

/-- A voice in Attack at level 0x800000. -/
def attacking : Voice := { sounding with stage := .attack, env := 0x800000 }

/-- A voice in Release at level 0x1800. -/
def releasing : Voice := { sounding with stage := .release, env := 0x1800 }

theorem voice_reset_ok : Voice.reset.Ok := by constructor <;> decide
theorem sounding_ok : sounding.Ok := by constructor <;> decide
theorem attacking_ok : attacking.Ok := by constructor <;> decide
theorem releasing_ok : releasing.Ok := by constructor <;> decide

theorem small_legal : small.Legal := by decide

theorem base_inv : Inv base where
  params_legal := small_legal
  voices_ok := ⟨rfl, by intro v hv; rw [List.eq_of_mem_replicate hv]; exact voice_reset_ok,
    by constructor <;> decide, by constructor <;> decide⟩
  queue_ok := ⟨by decide, by intro e he; cases he⟩
  sizes_ok := ⟨by decide, rfl, trivial⟩
  sequencer_ok := ⟨by decide, by decide, by decide, by decide⟩
  stores_ok := ⟨rfl, by decide, by decide⟩
  codes_ok := ⟨by decide, by decide, by decide⟩

/-- The queue of `loaded` is full and validated, and its WRSAMPLE fits the CONFIGURE before it. -/
theorem loaded_inv : Inv loaded where
  params_legal := small_legal
  voices_ok := ⟨rfl, base_inv.voices_ok.voice_ok, base_inv.voices_ok.attack_ok, base_inv.voices_ok.release_ok⟩
  queue_ok := ⟨by decide, by
    intro e he
    simp only [loaded, List.mem_cons, List.not_mem_nil, or_false] at he
    rcases he with rfl | rfl <;> constructor <;> first | decide | (intro h; exact absurd h (by decide))⟩
  sizes_ok := ⟨by decide, rfl, by refine ⟨by decide, by decide, trivial⟩⟩
  sequencer_ok := ⟨by decide, by decide, by decide, by decide⟩
  stores_ok := ⟨rfl, by decide, by decide⟩
  codes_ok := ⟨by decide, by decide, by decide⟩

theorem rendering_inv : Inv rendering where
  params_legal := small_legal
  voices_ok := ⟨rfl, by
      intro v hv
      simp only [rendering, List.mem_cons, List.not_mem_nil, or_false] at hv
      rcases hv with rfl | rfl
      · exact sounding_ok
      · exact voice_reset_ok,
    base_inv.voices_ok.attack_ok, base_inv.voices_ok.release_ok⟩
  queue_ok := ⟨by decide, by intro e he; cases he⟩
  sizes_ok := ⟨by decide, rfl, trivial⟩
  sequencer_ok := ⟨by decide, by decide, by decide, by decide⟩
  stores_ok := ⟨rfl, by decide, by decide⟩
  codes_ok := ⟨by decide, by decide, by decide⟩

/-! ### Witnesses: the hypotheses of each statement hold together -/

/-- One word of each port decodes. -/
theorem witness_DecodedWordsAreTheEncoding :
    decode .cmdOp 0x00FF0F03 0x0000FFFF 0xFFFFFFFF = .ok (.activate 15 0xFFFF 255 0xFFFFFFFF) ∧
      decode .renderCtrl 0x0000FFFF 1 2 = .ok (.render 0xFFFF) ∧
      decode .probePhase 0xFFFFFFFF 1 2 = .ok (.probe 0xFFFFFFFF) := ⟨rfl, rfl, rfl⟩

theorem witness_StepRunsDecodedInstruction :
    (facing base (fullWrite (portOffset .cmdOp) 4)).inputs = fullWrite (portOffset .cmdOp) 4 :: [] ∧
      decode .cmdOp 4 base.cmdArg0 base.cmdArg1 = .ok (.release 0) := ⟨rfl, rfl⟩

theorem witness_instruction_writes :
    (facing base (fullWrite 0x0048 3)).inputs = fullWrite 0x0048 3 :: [] ∧
      (facing base (fullWrite 0x0050 4)).inputs = fullWrite 0x0050 4 :: [] ∧
      (facing base (fullWrite 0x0060 1)).inputs = fullWrite 0x0060 1 :: [] := ⟨rfl, rfl, rfl⟩

theorem witness_RecordSetsCodeErrorBitAndIrq :
    Code.invalidSize ≠ .ok ∧ Code.invalidFrameCount ≠ .ok ∧
      (Code.invalidIncrement, 5, (0x010 : BitVec 11)) ∈ Spec.codes := by decide

/-- A rejection at each port. -/
theorem witness_RejectedInstructionOnlyRecords :
    exec .nop loaded = .next (record .cmdOp .queueFull loaded) ∧
      Spec.resultOf .cmdOp (record .cmdOp .queueFull loaded) = 7 ∧
      exec (.render 5) base = .next (record .renderCtrl .invalidFrameCount base) ∧
      Spec.resultOf .renderCtrl (record .renderCtrl .invalidFrameCount base) = 11 ∧
      exec (.probe 0) rendering = .next (record .probePhase .engineBusy rendering) ∧
      Spec.resultOf .probePhase (record .probePhase .engineBusy rendering) = 10 := by
  exact ⟨rfl, rfl, rfl, rfl, rfl, rfl⟩

/-- An ACTIVATE without a table, and a WRSAMPLE with its last index. -/
theorem witness_WellFormedInstructionIsAccepted :
    ((Instr.activate 1 60 0 1).WellFormed small ∧ base.busy = false ∧
      base.queue.length ≠ base.params.cmdqDepth ∧ base.ctlTableSize = 0) ∧
    ((Instr.wrsample 3 1).WellFormed small ∧ queued.busy = false ∧
      queued.queue.length ≠ queued.params.cmdqDepth ∧ (3 : Word).toNat < queued.ctlTableSize.toNat) := by
  decide

/-- Room in the queue, and operands at both ends of their ranges (NopIsQueued, ConfigureIsQueued,
WrsampleIsQueued, ActivateIsQueued, ReleaseAndSilenceAreQueued, ResetAllIsQueued, SetEnvIsQueued). -/
theorem witness_commands_are_queued :
    base.queue.length ≠ base.params.cmdqDepth ∧ queued.queue.length ≠ queued.params.cmdqDepth ∧
      ((1 : Word) ≠ 0 ∧ (1 : Word).toNat ≤ base.params.tableMax) ∧
      ((8 : Word) ≠ 0 ∧ (8 : Word).toNat ≤ base.params.tableMax) ∧
      ((0 : Word).toNat < queued.ctlTableSize.toNat ∧ (3 : Word).toNat < queued.ctlTableSize.toNat) ∧
      ((0 : Byte).toNat < base.params.numVoices ∧ (1 : Byte).toNat < base.params.numVoices) ∧
      (1 : Word) ≠ 0 ∧ base.ctlTableSize = 0 ∧ queued.ctlTableSize ≠ 0 ∧
      ((1 : BitVec 25) ≠ 0 ∧ (1 : BitVec 25).toNat ≤ 2 ^ 24) ∧
      ((0x1000000 : BitVec 25) ≠ 0 ∧ (0x1000000 : BitVec 25).toNat ≤ 2 ^ 24) := by decide

/-- A block of no frames and a block of the longest length. -/
theorem witness_RenderStartsBlock :
    loaded.params.Legal ∧ loaded.busy = false ∧ (0 : BitVec 16).toNat ≤ loaded.params.outbufFrames ∧
      (4 : BitVec 16).toNat ≤ loaded.params.outbufFrames := by decide

theorem witness_ProbeLooksUpTable : tabled.busy = false := rfl

/-- One entry of each opcode with no voice operand. -/
theorem witness_AppliedBankAndTableCommands :
    (entryFN 0 base).opcode = 0 ∧ (entryFC 1 4 base).opcode = 1 ∧ (entryFW 2 0 1).opcode = 2 ∧
      (entryFN 6 base).opcode = 6 ∧ (entryFE 7 1 1).opcode = 7 := by decide

/-- One entry of each voice opcode, on a sounding voice and on an Idle one. -/
theorem witness_AppliedVoiceCommands :
    rendering.voices[(entryFA 3 0 1 2 3).slot.toNat]? = some sounding ∧ (entryFA 3 0 1 2 3).opcode = 3 ∧
      rendering.voices[(entryFS 4 1 base).slot.toNat]? = some Voice.reset ∧ (entryFS 4 1 base).opcode = 4 ∧
      rendering.voices[(entryFS 4 0 base).slot.toNat]? = some sounding ∧
      rendering.voices[(entryFS 5 1 base).slot.toNat]? = some Voice.reset ∧ (entryFS 5 1 base).opcode = 5 := by
  decide

theorem witness_ApplyAllPopsHeadFirst : base.queue = [] ∧ loaded.queue = entryFC 1 4 base :: [entryFW 2 1 0x3F800000] :=
  ⟨rfl, rfl⟩

/-- An idle block, a rendering block, and a rendering block at its last frame. -/
theorem witness_FrameStepFollowsRules :
    (VoicesOk base ∧ base.busy = false) ∧ (VoicesOk rendering ∧ rendering.busy = true) ∧
      rendering.frameIdx + 1 ≠ rendering.lastBlockFrames ∧
      ({ rendering with frameIdx := 1 } : State).frameIdx + 1 = rendering.lastBlockFrames :=
  ⟨⟨base_inv.voices_ok, rfl⟩, ⟨rendering_inv.voices_ok, rfl⟩, by decide, by decide⟩

/-- A frame between a command push and a rejected PROBE. -/
theorem witness_BusTrafficCannotDisturbBlock :
    let xs : List Input := [fullWrite 0x0048 6, .frame, fullWrite 0x0060 1]
    SequencerOk rendering ∧ rendering.busy = true ∧ (∀ i ∈ xs, i ≠ .reset) ∧
      Spec.frameTurns xs < rendering.lastBlockFrames.toNat - rendering.frameIdx.toNat ∧
      ∃ t, Spec.runInputs xs rendering = some t :=
  ⟨rendering_inv.sequencer_ok, rfl, by decide, by decide, _, rfl⟩

theorem witness_PhaseAfterFrames :
    rendering.voices[0]? = some sounding ∧
      ∀ j < 2, (frameStep^[j] rendering).busy = true ∧ (frameStep^[j] rendering).slotActive 0 = true := by
  decide

/-- A RESET_ALL queued while a voice sounds, and a block of two frames. -/
theorem witness_ResetAllSilencesNextBlock :
    let s : State := { rendering with busy := false, queue := [entryFA 3 0 60 1 1, entryFN 6 base] }
    s.params.Legal ∧ s.busy = false ∧ (2 : BitVec 16).toNat ≤ s.params.outbufFrames ∧
      s.queue = [entryFA 3 0 60 1 1] ++ entryFN 6 base :: [] ∧ (entryFN 6 base).opcode = 6 ∧
      ∀ x ∈ ([] : List QEntry), x.opcode ≠ 3 := by decide

/-- A voice in each stage, and the steps at both ends of their range. -/
theorem witness_StageTransitions :
    (Voice.reset.Ok ∧ attacking.Ok ∧ sounding.Ok ∧ releasing.Ok) ∧
      (Voice.reset.stage, attacking.stage, sounding.stage, releasing.stage) =
        (Stage.idle, Stage.attack, Stage.sustain, Stage.release) ∧
      StepOk 1 ∧ StepOk 0x1000000 :=
  ⟨⟨voice_reset_ok, attacking_ok, sounding_ok, releasing_ok⟩, rfl, by constructor <;> decide,
    by constructor <;> decide⟩

theorem witness_AttackDuration :
    attacking.stage = .attack ∧ attacking.env.toNat ≤ 2 ^ 24 ∧ StepOk 0x1000000 :=
  ⟨rfl, by decide, by constructor <;> decide⟩

theorem witness_ReleaseDuration : releasing.stage = .release ∧ 0 < releasing.env.toNat ∧ StepOk 0x1000 :=
  ⟨rfl, by decide, by constructor <;> decide⟩

/-- Both zeros, the least subnormal and the greatest finite word; infinities and NaNs are not finite. -/
theorem witness_finite_words :
    isFinite 0x80000000 = true ∧ isFinite 0x00000001 = true ∧ isFinite 0xFF7FFFFF = true ∧
      isFinite 0x7F800000 = false := by decide

theorem witness_RoundingIsRNE32 : (0 : ℕ) < 1 := by decide

/-- An empty table; a table with finite neighbours; a table with a non-finite one. -/
theorem witness_LookupFollowsRules :
    base.tableSize = 0 ∧ tabled.tableSize ≠ 0 ∧
      (isFinite (tabled.mem.readTable 3) = true ∧ isFinite (tabled.mem.readTable 0) = true) ∧
      isFinite ((tabled.mem.writeTable 0 0x7F800000).readTable 0) = false := by decide

/-- The last grid point and the last midpoint of a table of 4 words: the wrap to word 0. -/
theorem witness_LookupAtGridPoint_and_Midpoint :
    tabled.tableSize ≠ 0 ∧ (0xC0000000 : Word).toNat * tabled.tableSize.toNat = 3 * 2 ^ 32 ∧
      (0xE0000000 : Word).toNat * tabled.tableSize.toNat = 3 * 2 ^ 32 + 2 ^ 31 ∧
      isFinite (tabled.mem.readTable 3) = true ∧
      isFinite (tabled.mem.readTable ((3 + 1) % tabled.tableSize.toNat)) = true := by decide

theorem witness_LookupResultIsFinite : tabled.lookup 0xE0000000 = .finite 0xBF000000 := by decide

/-- A FINITE and a NONFINITE lookup at a voice's next phase, the level at its greatest. -/
theorem witness_VoiceSample :
    tabled.lookup (sounding.phase + sounding.inc) = .finite 0xBF800000 ∧
      ({ tabled with mem := tabled.mem.writeTable 0 0x7F800000 } : State).lookup
        (sounding.phase + sounding.inc) = .nonfinite ∧ sounding.env.toNat ≤ 2 ^ 24 := by decide

theorem witness_OutputIsNeverNaN :
    ({ base with busy := true, lastBlockFrames := 1 } : State).busy = true ∧
      ∀ v ∈ ({ base with busy := true, lastBlockFrames := 1 } : State).voices, v.stage = .idle := by decide

/-- Slot 0 is set, slot 1 is Idle, and bit 31 has no slot. -/
theorem witness_ActiveMaskBits :
    rendering.voices.length = rendering.params.numVoices ∧ (rendering.readReg (.activeMask 0)) = 1 ∧
      small.Legal := by decide

/-- The first and last voice window, the first and last output entry, and an offset in each unmapped range at
its ends. -/
theorem witness_RegisterMapWindows :
    small.Legal ∧ 1 < small.numVoices ∧ 3 < small.outbufFrames ∧
      regAt small (0x1000 + 0x20 * 1 + 0x10) = some (.voice 1 .env) ∧ regAt small 0x103C = none ∧
      regAt small 0x1040 = none ∧ regAt small 0x3FFC = none ∧ regAt small 0x400C = some (.outbuf 3) ∧
      regAt small 0x4010 = none ∧ regAt small 0x006C = none ∧ regAt small 0x007C = none ∧
      regAt small 0x00A0 = none ∧ regAt small 0x0FFC = none := by decide

/-- A read, and writes to a latch, to IRQ_ENABLE and to a read-only register. -/
theorem witness_RegisterAccesses :
    (regAt small (0x0048 : Offset).toNat = some .cmdOp ∧
      (facing base (.read 0x0048 .bits32)).inputs = .read 0x0048 .bits32 :: []) ∧
    (regAt small (0x0040 : Offset).toNat = some .cmdArg0 ∧ regAt small (0x0044 : Offset).toNat = some .cmdArg1 ∧
      regAt small (0x0024 : Offset).toNat = some .irqEnable ∧ regAt small (0x4000 : Offset).toNat = some (.outbuf 0)) ∧
    (facing base (fullWrite 0x4000 1)).inputs = fullWrite 0x4000 1 :: [] ∧ (0x4000 : Offset).toNat % 4 = 0 := by
  decide

/-- A full queue within its depth, both voices of the small block, and an output entry a frame has written. -/
theorem witness_RegisterReadValues :
    small.Legal ∧ loaded.params = small ∧ loaded.queue.length ≤ loaded.params.cmdqDepth ∧
      rendering.voices[0]? = some sounding ∧ rendering.voices[1]? = some Voice.reset ∧
      (frameStep rendering).mem.readOutbuf 0 = some 0xBF800000 := by decide

/-- Writes to ERROR and IRQ_STATUS, with bits to clear. -/
theorem witness_ErrorAndIrqAreWriteOneToClear :
    (facing base (fullWrite 0x0014 0x41)).inputs = fullWrite 0x0014 0x41 :: [] ∧
      (facing base (fullWrite 0x0020 2)).inputs = fullWrite 0x0020 2 :: [] ∧
      Code.queueFull ≠ .ok := by decide

/-- ERROR and IRQ_STATUS at their offsets, and an offset that is no multiple of 4. -/
theorem witness_acknowledgement_registers :
    regAt small (0x0014 : Offset).toNat = some .error ∧ regAt small (0x0020 : Offset).toNat = some .irqStatus ∧
      (0x0012 : ℕ) % 4 ≠ 0 := by decide

/-- Each cause of a bus error, and a step that answers a next state. -/
theorem witness_StepFaultsExactlyOnUnadmittedAccess :
    step (facing base (.read 0x0002 .bits32)) = .fault (.busError 0x0002 .misaligned) ∧
      step (facing base (.write 0x0040 .bits8 0xF 0)) = .fault (.busError 0x0040 .narrow) ∧
      step (facing base (.write 0x0040 .bits32 0x7 0)) = .fault (.busError 0x0040 .narrow) ∧
      step (facing base (.read 0x1040 .bits32)) = .fault (.busError 0x1040 .unmapped) ∧
      ∃ t, step (facing base (.read 0x0040 .bits32)) = .next t := by
  exact ⟨rfl, rfl, rfl, rfl, _, rfl⟩

theorem witness_ResetStepRestoresEveryElement : (facing rendering .reset).inputs = .reset :: [] := rfl

theorem witness_ResetSatisfiesInvariant :
    small.Legal ∧ Params.default.Legal ∧
      ({ numVoices := 256, tableMax := 2 ^ 24, cmdqDepth := 65535, outbufFrames := 4096 } : Params).Legal := by
  decide

/-- The invariants hold of a full queue facing an accepted RENDER and of a block facing its frame, and both
steps answer a next state (the six StepKeeps statements). -/
theorem witness_StepKeeps :
    (Inv loaded ∧ ∃ t, step loaded = .next t) ∧
      (Inv rendering ∧ ∃ t, step rendering = .next t) :=
  ⟨⟨loaded_inv, _, rfl⟩, ⟨rendering_inv, _, rfl⟩⟩

/-- An accepted RENDER changes the table size, a frame the output buffer. -/
theorem witness_AppliedStateChangesOnlyAtBlockStart :
    (after loaded [fullWrite 0x0050 4]).tableSize ≠ loaded.tableSize ∧
      (frameStep rendering).mem.outbuf ≠ rendering.mem.outbuf := by decide

/-- A retriggered note, a free slot and a stolen one all push commands. -/
theorem witness_FirmwareKeepsOneMappingPerNote :
    let fw : Firmware :=
      { map := [(60, 0), (62, 1)], age := [(0, 1), (1, 2)], pend := [], lastSeq := 2, sr := some 44100 }
    small.Legal ∧ (fw.map.map Prod.fst).Nodup ∧ (∀ e ∈ fw.map, e.2 < small.numVoices) ∧
      (∃ fw', startNote small { masks := [3], level := 0 } 64 255 1 fw =
        .pushes [.silence 0, .activate 0 64 255 1] fw') ∧
      (∃ fw', startNote small { masks := [1], level := 1 } 64 255 1 fw = .pushes [.activate 1 64 255 1] fw') ∧
      (∃ fw', startNote small { masks := [3], level := 1 } 62 255 1 fw = .pushes [.activate 1 62 255 1] fw') ∧
      ∃ fw', noteOff small { masks := [3], level := 1 } 60 fw = .pushes [.release 0] fw' := by
  exact ⟨by decide, by decide, by decide, ⟨_, rfl⟩, ⟨_, rfl⟩, ⟨_, rfl⟩, ⟨_, rfl⟩⟩

/-- 440 Hz, or any note, at 44100 frames per second. -/
theorem witness_FirmwareConversionsRoundOnce : (0 : ℕ) < 1 ∧ (0 : ℕ) < 44100 := by decide

end Sys2Proof.Machine.Tests
end

section
/-! PROOFS. binary32 decoding and rounding (00_scope.md R11, R12): the model's exact integers and its
naturals-only rounding are the rational formulas of the spec, and rounding inverts decoding. -/

open Sys2Proof Sys2Proof.Machine

namespace Sys2Proof.Machine

/-! ### Integer rounding, scaling and binade of a quotient, over rationals -/

theorem floor_natDiv (a d : ℕ) : ⌊(a : ℚ) / d⌋ = ((a / d : ℕ) : ℤ) := by
  rw [Rat.floor_natCast_div_natCast, Int.natCast_div]

/-- The part of a quotient above its floor is the remainder over the divisor. -/
theorem natDiv_sub_floor (a : ℕ) {d : ℕ} (hd : 0 < d) :
    (a : ℚ) / d - ((a / d : ℕ) : ℚ) = ((a % d : ℕ) : ℚ) / d := by
  have hsplit : (a : ℚ) = d * ((a / d : ℕ) : ℚ) + ((a % d : ℕ) : ℚ) := by exact_mod_cast (Nat.div_add_mod a d).symm
  have hd' : (d : ℚ) ≠ 0 := by positivity
  rw [eq_div_iff hd', sub_mul, div_mul_cancel₀ _ hd']
  linarith

theorem roundHalfEven_cast (a : ℕ) {d : ℕ} (hd : 0 < d) :
    (roundHalfEven a d : ℤ) = Spec.roundHalfEven ((a : ℚ) / d) := by
  have hd' : (0 : ℚ) < d := by exact_mod_cast hd
  have hbelow : ((a % d : ℕ) : ℚ) / d < 1 / 2 ↔ 2 * (a % d) < d := by
    rw [div_lt_div_iff₀ hd' two_pos, one_mul, mul_comm]; exact_mod_cast Iff.rfl
  have habove : 1 / 2 < ((a % d : ℕ) : ℚ) / d ↔ d < 2 * (a % d) := by
    rw [div_lt_div_iff₀ two_pos hd', one_mul, mul_comm]; exact_mod_cast Iff.rfl
  have heven : ((a / d : ℕ) : ℤ) % 2 = 0 ↔ a / d % 2 = 0 := by omega
  rw [Spec.roundHalfEven, floor_natDiv, Int.cast_natCast, natDiv_sub_floor a hd]
  simp only [hbelow, habove, heven, roundHalfEven]
  split_ifs <;> simp

/-- An integer rounds to itself. -/
@[simp] theorem roundHalfEven_natCast (m : ℕ) : Spec.roundHalfEven (m : ℚ) = m := by
  simp [Spec.roundHalfEven]

theorem zpow_two_of_nonneg {k : ℤ} (hk : 0 ≤ k) : (2 : ℚ) ^ k = 2 ^ k.toNat := by
  rw [← zpow_natCast, Int.toNat_of_nonneg hk]

theorem zpow_two_of_neg {k : ℤ} (hk : ¬ 0 ≤ k) : (2 : ℚ) ^ k = (2 ^ (-k).toNat)⁻¹ := by
  rw [← zpow_two_of_nonneg (by omega), zpow_neg, inv_inv]

theorem roundScaled_cast (a : ℕ) {d : ℕ} (hd : 0 < d) (k : ℤ) :
    (roundScaled a d k : ℤ) = Spec.roundHalfEven ((a : ℚ) / d / 2 ^ k) := by
  unfold roundScaled
  split
  next hk =>
    rw [roundHalfEven_cast a (by positivity), zpow_two_of_nonneg hk, div_div]
    push_cast
    rfl
  next hk =>
    rw [roundHalfEven_cast _ hd, zpow_two_of_neg hk, div_inv_eq_mul, div_mul_eq_mul_div]
    push_cast
    rfl

theorem pow2Le_iff (k : ℤ) (a : ℕ) {d : ℕ} (hd : 0 < d) : pow2Le k a d = true ↔ (2 : ℚ) ^ k ≤ (a : ℚ) / d := by
  have hd' : (0 : ℚ) < d := by exact_mod_cast hd
  unfold pow2Le
  split
  next hk =>
    rw [decide_eq_true_iff, zpow_two_of_nonneg hk, le_div_iff₀ hd', mul_comm]
    exact_mod_cast Iff.rfl
  next hk =>
    rw [decide_eq_true_iff, zpow_two_of_neg hk, le_div_iff₀ hd', inv_mul_le_iff₀ (by positivity), mul_comm]
    exact_mod_cast Iff.rfl

/-- The binade of a quotient is the difference of the operands' binades or one below it. -/
theorem log_natDiv_bounds {a d : ℕ} (ha : 0 < a) (hd : 0 < d) :
    (a.log2 : ℤ) - d.log2 - 1 ≤ Int.log 2 ((a : ℚ) / d) ∧ Int.log 2 ((a : ℚ) / d) ≤ (a.log2 : ℤ) - d.log2 := by
  have hd' : (0 : ℚ) < d := by exact_mod_cast hd
  have hx : (0 : ℚ) < (a : ℚ) / d := by positivity
  have hbelow {n : ℕ} (hn : 0 < n) : (2 : ℚ) ^ (n.log2 : ℤ) ≤ n := by
    rw [zpow_natCast]; exact_mod_cast Nat.log2_self_le hn.ne'
  have habove (n : ℕ) : (n : ℚ) < 2 ^ ((n.log2 : ℤ) + 1) := by
    exact_mod_cast (Nat.lt_log2_self (n := n))
  constructor
  · rw [← Int.zpow_le_iff_le_log one_lt_two hx, Nat.cast_ofNat, le_div_iff₀ hd']
    calc (2 : ℚ) ^ ((a.log2 : ℤ) - d.log2 - 1) * d
        ≤ 2 ^ ((a.log2 : ℤ) - d.log2 - 1) * 2 ^ ((d.log2 : ℤ) + 1) := by gcongr; exact (habove d).le
      _ = 2 ^ (a.log2 : ℤ) := by rw [← zpow_add₀ two_ne_zero]; congr 1; ring
      _ ≤ a := hbelow ha
  · rw [← Int.lt_add_one_iff, ← Int.lt_zpow_iff_log_lt one_lt_two hx, Nat.cast_ofNat, div_lt_iff₀ hd']
    calc (a : ℚ) < 2 ^ ((a.log2 : ℤ) + 1) := habove a
      _ = 2 ^ ((a.log2 : ℤ) - d.log2 + 1) * 2 ^ (d.log2 : ℤ) := by
          rw [← zpow_add₀ two_ne_zero]; congr 1; ring
      _ ≤ 2 ^ ((a.log2 : ℤ) - d.log2 + 1) * d := by gcongr; exact hbelow hd

theorem floorLog2_eq_log {a d : ℕ} (ha : 0 < a) (hd : 0 < d) : floorLog2 a d = Int.log 2 ((a : ℚ) / d) := by
  have hx : (0 : ℚ) < (a : ℚ) / d := by positivity
  obtain ⟨hlow, hhigh⟩ := log_natDiv_bounds ha hd
  have htest := pow2Le_iff ((a.log2 : ℤ) - d.log2) a hd
  rw [← Nat.cast_ofNat (R := ℚ), Int.zpow_le_iff_le_log one_lt_two hx] at htest
  simp only [floorLog2, htest]
  split <;> omega

/-! ### The four last lines of RNE32 -/

/-- The word of a rounded integer by the last four lines of RNE32 (00_scope.md R12), on integers. -/
theorem packRounded_eq (s : Bool) {e : ℤ} (he : -126 ≤ e) (M : ℕ) :
    packRounded s e M =
      if (M : ℤ) = 0 then 0x00000000
      else if 127 < e then (if s then 0xFF800000 else 0x7F800000)
      else if 2 ^ 23 ≤ (M : ℤ) then
        BitVec.ofBool s ++ BitVec.ofInt 8 (e + 127) ++ BitVec.ofInt 23 ((M : ℤ) - 2 ^ 23)
      else BitVec.ofBool s ++ (0 : BitVec 8) ++ BitVec.ofInt 23 (M : ℤ) := by
  have hinf : packF32 s 0xFF 0 = if s then 0xFF800000 else 0x7F800000 := by cases s <;> rfl
  have hexp : BitVec.ofInt 8 (e + 127) = BitVec.ofNat 8 (e + 127).toNat := by
    rw [← BitVec.ofInt_natCast, Int.toNat_of_nonneg (by omega)]
  have hnorm : 2 ^ 23 ≤ (M : ℤ) ↔ 2 ^ 23 ≤ M := by omega
  have hfrac (h : 2 ^ 23 ≤ M) : BitVec.ofInt 23 ((M : ℤ) - 2 ^ 23) = BitVec.ofNat 23 (M - 2 ^ 23) := by
    rw [← BitVec.ofInt_natCast, Nat.cast_sub h, Nat.cast_pow, Nat.cast_ofNat]
  simp only [packRounded, hinf, hexp, hnorm, Int.natCast_eq_zero, BitVec.ofInt_natCast]
  by_cases hM : 2 ^ 23 ≤ M
  · simp only [if_pos hM, hfrac hM, packF32]
  · simp only [if_neg hM, packF32, BitVec.ofNat_eq_ofNat]

theorem rne32_eq_spec (n : ℤ) {d : ℕ} (hd : 0 < d) : rne32 n d = Spec.rne32 ((n : ℚ) / (d : ℚ)) := by
  have hd' : (0 : ℚ) < d := by exact_mod_cast hd
  have hneg : (n : ℚ) / d < 0 ↔ n < 0 := by rw [div_lt_iff₀ hd', zero_mul]; exact_mod_cast Iff.rfl
  have hzero : (n : ℚ) / d = 0 ↔ n = 0 := by simp [hd.ne']
  have habs : |(n : ℚ) / d| = (n.natAbs : ℚ) / d := by
    rw [abs_div, abs_of_pos hd', Nat.cast_natAbs, Int.cast_abs]
  by_cases hn : n = 0
  · simp [rne32, Spec.rne32, hn]
  have hlog := floorLog2_eq_log (Int.natAbs_pos.mpr hn) hd
  simp only [rne32, Spec.rne32, if_neg hn, hzero, hneg, habs, ← hlog, ← roundScaled_cast _ hd]
  generalize roundScaled n.natAbs d _ = M
  have hcarry : (M : ℤ) = 2 ^ 24 ↔ M = 2 ^ 24 := by omega
  by_cases h : M = 2 ^ 24
  · rw [if_pos h, packRounded_eq _ (by omega)]
    simp only [if_pos (hcarry.mpr h), decide_eq_true_eq, Nat.cast_pow, Nat.cast_ofNat]
  · rw [if_neg h, packRounded_eq _ (by omega)]
    simp only [if_neg (mt hcarry.mp h), decide_eq_true_eq]

/-! ### The value of a finite word -/

/-- The integer significand of a finite word: both formulas of 00_scope.md R11 read
`significand w * 2^(binade w - 23)`. -/
def significand (w : Word) : ℕ := if expField w = 0 then fracField w else 2 ^ 23 + fracField w

/-- The binade of a finite word, which is RNE32's `e` for its value; subnormal words share the least one. -/
def binade (w : Word) : ℤ := max (expField w : ℤ) 1 - 127

theorem f32one_pos : 0 < f32one := by unfold f32one; positivity

theorem f32one_cast : (f32one : ℚ) = 2 ^ 149 := by unfold f32one; norm_cast

theorem isFinite_iff (w : Word) : isFinite w = true ↔ expField w ≠ 255 := by simp [isFinite]

theorem expField_lt (w : Word) : expField w < 2 ^ 8 := (w.extractLsb' 23 8).isLt

theorem fracField_lt (w : Word) : fracField w < 2 ^ 23 := (w.extractLsb' 0 23).isLt

theorem significand_lt (w : Word) : significand w < 2 ^ 24 := by
  have := fracField_lt w
  unfold significand
  split <;> omega

theorem binade_ge (w : Word) : -126 ≤ binade w := by unfold binade; omega

/-- A word is normal, or lies in the least binade. -/
theorem significand_normalized (w : Word) : 2 ^ 23 ≤ significand w ∨ binade w = -126 := by
  unfold significand binade
  split <;> omega

theorem significand_eq_zero_iff (w : Word) : significand w = 0 ↔ expField w = 0 ∧ fracField w = 0 := by
  unfold significand
  split <;> omega

theorem f32mag_of_finite {w : Word} (h : isFinite w = true) :
    f32mag w = significand w * 2 ^ (binade w + 126).toNat := by
  have hfin := (isFinite_iff w).mp h
  simp only [f32mag, if_neg hfin, significand, binade]
  split
  next he => simp [he]
  next he => congr 2; omega

theorem f32mag_div_f32one {w : Word} (h : isFinite w = true) :
    (f32mag w : ℚ) / f32one = significand w * 2 ^ (binade w - 23) := by
  have hone : (f32one : ℚ) = 2 ^ (149 : ℤ) := by rw [f32one_cast]; norm_cast
  rw [f32mag_of_finite h, hone, div_eq_iff (by positivity), mul_assoc, ← zpow_add₀ two_ne_zero, Nat.cast_mul,
    Nat.cast_pow, Nat.cast_ofNat, ← zpow_two_of_nonneg (by have := binade_ge w; omega)]
  congr 2
  ring

theorem f32val_eq (w : Word) :
    Spec.f32val w = (if w.getLsbD 31 then -1 else 1) * (significand w * (2 : ℚ) ^ (binade w - 23)) := by
  unfold Spec.f32val significand binade
  change _ * (if expField w = 0 then (fracField w : ℚ) * _
    else (2 ^ 23 + (fracField w : ℚ)) * 2 ^ ((expField w : ℤ) - 150)) = _
  congr 1
  split
  next he => simp [he]
  next he =>
    have hexp : (expField w : ℤ) - 150 = max (expField w : ℤ) 1 - 127 - 23 := by omega
    rw [hexp]
    push_cast
    rfl

theorem f32units_div_f32one {w : Word} (h : isFinite w = true) : (f32units w : ℚ) / f32one = Spec.f32val w := by
  rw [f32val_eq, ← f32mag_div_f32one h]
  unfold f32units
  split <;> simp [neg_div]

theorem natAbs_f32units (w : Word) : (f32units w).natAbs = f32mag w := by
  unfold f32units
  split <;> simp

theorem f32mag_eq_zero_iff {w : Word} (h : isFinite w = true) : f32mag w = 0 ↔ significand w = 0 := by
  simp [f32mag_of_finite h]

theorem f32units_neg_iff {w : Word} (h : f32mag w ≠ 0) : f32units w < 0 ↔ w.getLsbD 31 = true := by
  unfold f32units
  split
  next hs => exact iff_of_true (by omega) hs
  next hs => exact iff_of_false (by omega) hs

/-! ### Rounding a representable value -/

/-- Every word is the packing of its own fields. -/
theorem packF32_fields (w : Word) : packF32 (w.getLsbD 31) (expField w) (fracField w) = w := by
  have hsign : BitVec.ofBool (w.getLsbD 31) = w.extractLsb' 31 1 := by
    ext i hi
    obtain rfl : i = 0 := by omega
    simp
  simp only [packF32, expField, fracField, BitVec.ofNat_toNat, BitVec.setWidth_eq, hsign]
  rw [BitVec.extractLsb'_append_extractLsb'_eq_extractLsb' (show 31 = 23 + 8 from rfl),
    BitVec.extractLsb'_append_extractLsb'_eq_extractLsb' (show 23 = 0 + 23 from rfl)]
  exact BitVec.extractLsb'_eq_self

/-- A finite word other than the two zeros is what the last lines of RNE32 make of its significand and binade. -/
theorem packRounded_significand {w : Word} (h : isFinite w = true) (h0 : significand w ≠ 0) :
    packRounded (w.getLsbD 31) (binade w) (significand w) = w := by
  have hfin := (isFinite_iff w).mp h
  have hexp := expField_lt w
  have hfrac := fracField_lt w
  have hbig : ¬ 127 < binade w := by unfold binade; omega
  rw [packRounded, if_neg h0, if_neg hbig]
  by_cases he : expField w = 0
  · have hsig : significand w = fracField w := if_pos he
    rw [if_neg (by omega), hsig, ← he, packF32_fields]
  · have hsig : significand w = 2 ^ 23 + fracField w := if_neg he
    have hbin : (binade w + 127).toNat = expField w := by unfold binade; omega
    rw [if_pos (by omega), hsig, Nat.add_sub_cancel_left, hbin, packF32_fields]

/-- The binade RNE32 takes for `M * 2^(e-23)`, when `M` is a normal significand or `e` the least binade. -/
theorem binade_of_grid {e : ℤ} {M : ℕ} (he : -126 ≤ e) (hM : 0 < M) (hlt : M < 2 ^ 24)
    (hnorm : 2 ^ 23 ≤ M ∨ e = -126) : max (Int.log 2 ((M : ℚ) * 2 ^ (e - 23))) (-126) = e := by
  have hx : (0 : ℚ) < M * 2 ^ (e - 23) := by positivity
  have hhigh : Int.log 2 ((M : ℚ) * 2 ^ (e - 23)) < e + 1 := by
    rw [← Int.lt_zpow_iff_log_lt one_lt_two hx, Nat.cast_ofNat]
    calc (M : ℚ) * 2 ^ (e - 23) < 2 ^ (24 : ℤ) * 2 ^ (e - 23) := by gcongr; exact_mod_cast hlt
      _ = 2 ^ (e + 1) := by rw [← zpow_add₀ two_ne_zero]; congr 1; ring
  have hlow (h : 2 ^ 23 ≤ M) : e ≤ Int.log 2 ((M : ℚ) * 2 ^ (e - 23)) := by
    rw [← Int.zpow_le_iff_le_log one_lt_two hx, Nat.cast_ofNat]
    calc (2 : ℚ) ^ e = 2 ^ (23 : ℤ) * 2 ^ (e - 23) := by rw [← zpow_add₀ two_ne_zero]; congr 1; ring
      _ ≤ M * 2 ^ (e - 23) := by gcongr; exact_mod_cast h
  rcases hnorm with h | h
  · have := hlow h; omega
  · omega

/-- A quotient on the binary32 grid rounds without error: its grid integer is packed as it stands. -/
theorem rne32_of_grid {n : ℤ} {d : ℕ} {e : ℤ} {M : ℕ} (hd : 0 < d) (hM : 0 < M) (hlt : M < 2 ^ 24)
    (he : -126 ≤ e) (hnorm : 2 ^ 23 ≤ M ∨ e = -126) (hval : (n.natAbs : ℚ) / d = M * 2 ^ (e - 23)) :
    rne32 n d = packRounded (decide (n < 0)) e M := by
  have hn : n ≠ 0 := by
    rintro rfl
    have hpos : (0 : ℚ) < M * 2 ^ (e - 23) := by positivity
    simp [← hval] at hpos
  have hbin : max (floorLog2 n.natAbs d) (-126) = e := by
    rw [floorLog2_eq_log (Int.natAbs_pos.mpr hn) hd, hval, binade_of_grid he hM hlt hnorm]
  have hround : roundScaled n.natAbs d (e - 23) = M := by
    have hcast := roundScaled_cast n.natAbs hd (e - 23)
    rw [hval, mul_div_cancel_right₀ _ (by positivity), roundHalfEven_natCast] at hcast
    exact_mod_cast hcast
  simp only [rne32, if_neg hn, hbin, hround, if_neg hlt.ne]

theorem rne32_f32units_of_nonzero {w : Word} (h : isFinite w = true) (h0 : significand w ≠ 0) :
    rne32 (f32units w) f32one = w := by
  have hsign : decide (f32units w < 0) = w.getLsbD 31 := by
    rw [Bool.eq_iff_iff, decide_eq_true_iff, f32units_neg_iff (mt (f32mag_eq_zero_iff h).mp h0)]
  have hval : ((f32units w).natAbs : ℚ) / f32one = significand w * 2 ^ (binade w - 23) := by
    rw [natAbs_f32units, f32mag_div_f32one h]
  rw [rne32_of_grid f32one_pos (Nat.pos_of_ne_zero h0) (significand_lt w) (binade_ge w)
    (significand_normalized w) hval, hsign, packRounded_significand h h0]

/-- Only the two zero words have significand 0. -/
theorem eq_zero_word_of_significand {w : Word} (h : significand w = 0) : w = 0x00000000 ∨ w = 0x80000000 := by
  obtain ⟨he, hm⟩ := (significand_eq_zero_iff w).mp h
  have hw := packF32_fields w
  rw [he, hm] at hw
  cases hs : w.getLsbD 31 <;> rw [hs] at hw
  · exact .inl hw.symm
  · exact .inr hw.symm

end Sys2Proof.Machine

namespace Sys2Proof.Laws

/-- Settles O31: a finite word is a significand in a binade, in the model's units as in R11's formulas. -/
theorem wordValueIsBinary32 : Obligations.WordValueIsBinary32 := by
  refine ⟨fun w => ⟨isFinite_iff w, fun h => ?_⟩, by decide, by decide⟩
  rw [← f32one_cast, f32units_div_f32one h]

/-- Settles O32: the binade, the rounded integer and the packed word each agree with R12's line. -/
theorem roundingIsRNE32 : Obligations.RoundingIsRNE32 := fun n _ hd => rne32_eq_spec n hd

/-- Settles O33: the two zero words round to +0.0; the value of any other finite word is on the grid. -/
theorem roundingFixesFiniteWords : Obligations.RoundingFixesFiniteWords := by
  intro w h
  by_cases h0 : significand w = 0
  · rcases eq_zero_word_of_significand h0 with rfl | rfl <;> rfl
  · have hw : w ≠ 0x80000000 := by
      rintro rfl
      exact h0 (by decide)
    rw [if_neg hw, rne32_f32units_of_nonzero h h0]

end Sys2Proof.Laws
end

section
/-! PROOFS. What a step can do, said once: every step that answers a next state changes the registers of the
interface, queues one checked command, starts a block on the applied queue, steps the frame, or resets. -/

open Sys2Proof Sys2Proof.Machine

namespace Sys2Proof.Machine

/-! ### The push checks of 60_exceptions.md R105, as ranges -/

theorem slotCheck_eq_none {s : State} {slot : Byte} :
    slotCheck s slot = none ↔ slot.toNat < s.params.numVoices := by
  simp [slotCheck]

theorem configureCheck_eq_none {s : State} {n : Word} :
    configureCheck n s = none ↔ n ≠ 0 ∧ n.toNat ≤ s.params.tableMax := by
  simp [configureCheck]

theorem wrsampleCheck_eq_none {s : State} {i : Word} :
    wrsampleCheck i s = none ↔ i.toNat < s.ctlTableSize.toNat := by
  simp [wrsampleCheck]

theorem activateCheck_eq_none {s : State} {slot : Byte} {inc : Word} :
    activateCheck slot inc s = none ↔ slot.toNat < s.params.numVoices ∧ inc ≠ 0 := by
  rw [← slotCheck_eq_none]
  unfold activateCheck
  split <;> simp_all

theorem stepLegal_iff {a : BitVec 25} : stepLegal a = true ↔ StepOk a := by
  have hpos : a ≠ 0 ↔ 1 ≤ a.toNat := by bv_omega
  rw [stepLegal, StepOk, Bool.and_eq_true, bne_iff_ne, decide_eq_true_eq, hpos]

theorem setEnvCheck_eq_none {a r : BitVec 25} : setEnvCheck a r = none ↔ StepOk a ∧ StepOk r := by
  rw [← stepLegal_iff, ← stepLegal_iff]
  simp [setEnvCheck]

/-! ### Validated entries -/

section Entries

variable {p : Params} {e : QEntry}

/-- An entry of an opcode whose command names no slot, size, increment or envelope step. -/
theorem QEntry.Ok.of_opcode (h : e.opcode.toNat = 0 ∨ e.opcode.toNat = 2 ∨ e.opcode.toNat = 6) : e.Ok p := by
  constructor <;> omega

theorem QEntry.Ok.of_configure (h : e.opcode.toNat = 1) (hn : e.arg0 ≠ 0 ∧ e.arg0.toNat ≤ p.tableMax) : e.Ok p := by
  constructor
  case size_range => exact fun _ => hn
  all_goals omega

theorem QEntry.Ok.of_activate (h : e.opcode.toNat = 3) (hs : e.slot.toNat < p.numVoices) (hi : e.arg1 ≠ 0)
    (hn : e.arg0.toNat < 2 ^ 16) : e.Ok p := by
  constructor
  case inc_ne => exact fun _ => hi
  all_goals omega

/-- RELEASE and SILENCE: the slot is the one operand. -/
theorem QEntry.Ok.of_slot (h : e.opcode.toNat = 4 ∨ e.opcode.toNat = 5) (hs : e.slot.toNat < p.numVoices) :
    e.Ok p := by
  constructor <;> omega

theorem QEntry.Ok.of_setEnv (h : e.opcode.toNat = 7) (hw : e.arg0.toNat < 2 ^ 25 ∧ e.arg1.toNat < 2 ^ 25)
    (hs : StepOk (entryAttack e) ∧ StepOk (entryRelease e)) : e.Ok p := by
  constructor
  case steps_range => exact fun _ => hs
  all_goals omega

end Entries

/-- The 25 low bits of a zero-extended envelope step are the step. -/
theorem extract_zeroExtend_step (a : BitVec 25) : (a.zeroExtend 32).extractLsb' 0 25 = a := by
  ext k hk
  have hk32 : k < 32 := by omega
  simp [hk32, BitVec.getLsbD_eq_getElem hk]

theorem entryFA_ok {s : State} {slot vel : Byte} {note : BitVec 16} {inc : Word}
    (h : activateCheck slot inc s = none) : (entryFA 0x03 slot note vel inc).Ok s.params := by
  obtain ⟨hslot, hinc⟩ := activateCheck_eq_none.1 h
  refine QEntry.Ok.of_activate rfl hslot hinc ?_
  rw [entryFA, BitVec.toNat_setWidth_of_le (by omega)]
  exact note.isLt

theorem entryFE_ok {s : State} {a r : BitVec 25} (h : setEnvCheck a r = none) :
    (entryFE 0x07 a r).Ok s.params := by
  refine QEntry.Ok.of_setEnv rfl ?_ ?_
  · rw [entryFE, BitVec.toNat_setWidth_of_le (by omega), BitVec.toNat_setWidth_of_le (by omega)]
    exact ⟨a.isLt, r.isLt⟩
  · rw [entryAttack, entryRelease, entryFE, extract_zeroExtend_step, extract_zeroExtend_step]
    exact setEnvCheck_eq_none.1 h

/-! ### The push -/

/-- What the checks of 60_exceptions.md R105 have established when `e` goes into the queue: room, operands in
range, and an index below CTL_TABLE_SIZE. -/
structure PushOk (s : State) (e : QEntry) : Prop where
  room : s.queue.length ≠ s.params.cmdqDepth
  entry_ok : e.Ok s.params
  index_lt : e.opcode.toNat = 2 → e.arg0.toNat < s.ctlTableSize.toNat

/-- What a CMD_OP write of a command leaves: a recorded code, or one more queue entry with CTL_TABLE_SIZE
brought up to date, and OK or the warning of ACTIVATE in CMD_RESULT (60_exceptions.md R105). -/
inductive Pushed (s : State) : State → Prop where
  | rejected (c : Code) : Pushed s (record .cmdOp c s)
  | queued (e : QEntry) (c : Code) (x : BitVec 11) (f : BitVec 2) (h : PushOk s e) :
    Pushed s
      { s with
        queue := s.queue ++ [e], ctlTableSize := sizeAfter s.ctlTableSize e, cmdResult := codeByte c,
        error := x, irqStatus := f }

theorem sizeAfter_of_ne {n : Word} {e : QEntry} (h : e.opcode.toNat ≠ 1) : sizeAfter n e = n := if_neg h

theorem sizeAfter_configure {n : Word} {e : QEntry} (h : e.opcode.toNat = 1) : sizeAfter n e = e.arg0 := if_pos h

/-- A push whose checks cover the entry, of a command that leaves CTL_TABLE_SIZE alone. -/
theorem pushCommand_pushed {check : Option Code} {e : QEntry} {s : State} {k : ℕ} (hop : e.opcode.toNat = k)
    (hne : k ≠ 1) (hok : check = none → e.Ok s.params)
    (hidx : k = 2 → check = none → e.arg0.toNat < s.ctlTableSize.toNat) :
    Pushed s (pushCommand check e s) := by
  rcases pushCommand_cases check e s with ⟨c, -, h⟩ | ⟨-, -, h⟩ | ⟨⟨hc, hroom⟩, h⟩
  · exact h ▸ .rejected c
  · exact h ▸ .rejected .queueFull
  · have hq := Pushed.queued e .ok s.error s.irqStatus ⟨hroom, hok hc, fun h2 => hidx (hop ▸ h2) hc⟩
    rw [sizeAfter_of_ne (hop ▸ hne)] at hq
    exact h ▸ hq

theorem execConfigure_pushed {n : Word} {s t : State} (h : execConfigure n s = .next t) : Pushed s t := by
  unfold execConfigure at h
  dsimp only at h
  split at h
  next hacc =>
    cases h
    rw [pushCommand_accepted _ hacc]
    exact .queued (entryFC 0x01 n s) .ok s.error s.irqStatus
      ⟨hacc.2, QEntry.Ok.of_configure rfl (configureCheck_eq_none.1 hacc.1), fun h2 => nomatch h2⟩
  next hacc =>
    cases h
    rcases pushCommand_cases (configureCheck n s) (entryFC 0x01 n s) s with ⟨c, -, h⟩ | ⟨-, -, h⟩ | ⟨h, -⟩
    · exact h ▸ .rejected c
    · exact h ▸ .rejected .queueFull
    · exact absurd h hacc

theorem execActivate_pushed {slot vel : Byte} {note : BitVec 16} {inc : Word} {s t : State}
    (h : execActivate slot note vel inc s = .next t) : Pushed s t := by
  unfold execActivate at h
  dsimp only at h
  split at h
  next hacc =>
    cases h
    obtain ⟨hpush, -⟩ := hacc
    rw [pushCommand_accepted _ hpush]
    exact .queued (entryFA 0x03 slot note vel inc) .uninitializedTable _ _
      ⟨hpush.2, entryFA_ok hpush.1, fun h2 => nomatch h2⟩
  next =>
    cases h
    exact pushCommand_pushed (k := 3) rfl (by decide) entryFA_ok nofun

/-- Every command is a push. -/
theorem exec_command_pushed {i : Instr} {s t : State} (hp : i.port = .cmdOp) (h : exec i s = .next t) :
    Pushed s t := by
  cases i with
  | nop =>
    cases h
    exact pushCommand_pushed (k := 0) rfl (by decide) (fun _ => .of_opcode (.inl rfl)) nofun
  | configure n => exact execConfigure_pushed h
  | wrsample i w =>
    cases h
    exact pushCommand_pushed (k := 2) rfl (by decide) (fun _ => .of_opcode (.inr (.inl rfl)))
      (fun _ hc => wrsampleCheck_eq_none.1 hc)
  | activate slot note vel inc => exact execActivate_pushed h
  | release slot =>
    cases h
    exact pushCommand_pushed (k := 4) rfl (by decide)
      (fun hc => .of_slot (.inl rfl) (slotCheck_eq_none.1 hc)) nofun
  | silence slot =>
    cases h
    exact pushCommand_pushed (k := 5) rfl (by decide)
      (fun hc => .of_slot (.inr rfl) (slotCheck_eq_none.1 hc)) nofun
  | resetAll =>
    cases h
    exact pushCommand_pushed (k := 6) rfl (by decide) (fun _ => .of_opcode (.inr (.inr rfl))) nofun
  | setEnv a r =>
    cases h
    exact pushCommand_pushed (k := 7) rfl (by decide) entryFE_ok nofun
  | render n => cases hp
  | probe p => cases hp

/-! ### Which write decodes to a trigger -/

theorem requireZero_eq_ok {b : Bool} {i j : Instr} : requireZero b i = .ok j ↔ b = true ∧ i = j := by
  cases b <;> simp [requireZero]

/-- A decoded instruction is one of the port's own (30_encoding.md R69). -/
theorem port_of_decode {port : Port} {d a0 a1 : Word} {i : Instr} (h : decode port d a0 a1 = .ok i) :
    i.port = port := by
  cases port with
  | cmdOp =>
    simp only [decode, decodeCommand] at h
    split at h
    case h_9 => cases h
    all_goals
      obtain ⟨-, rfl⟩ := requireZero_eq_ok.1 h
      rfl
  | renderCtrl =>
    obtain ⟨-, rfl⟩ := requireZero_eq_ok.1 h
    rfl
  | probePhase =>
    cases h
    rfl

/-- A word accepted at RENDER_CTRL has upper half 0, and its lower half is the frame count (30_encoding.md R67). -/
theorem decodeRender_eq_ok {d : Word} {i : Instr} (h : decodeRender d = .ok i) :
    d.extractLsb' 16 16 = 0 ∧ i = .render (d.extractLsb' 0 16) := by
  obtain ⟨hz, rfl⟩ := requireZero_eq_ok.1 h
  exact ⟨by simpa using hz, rfl⟩

/-- RENDER_CTRL stands at one offset only (20_memory.md R53). -/
theorem regAt_renderCtrl {p : Params} {off : ℕ} (h : regAt p off = some .renderCtrl) : off = 0x0050 := by
  unfold regAt at h
  split at h
  · have hrow : ∀ o < 0x0080, fixedRegs.lookup o = some .renderCtrl → o = 0x0050 := by decide
    exact hrow off ‹_› h
  · split_ifs at h <;> simp [Option.map_eq_some_iff] at h

/-! ### The step -/

/-- A result register keeps its code or takes one of 60_exceptions.md R104. -/
def ResultUpdate (old new : Byte) : Prop := new = old ∨ ∃ c, new = codeByte c

/-- What a step that answers a next state can do (20_memory.md R60): move the interface's registers only, queue
one command, start a block on the applied queue, step the frame, or reset. The parameters stay; the input list
and the response, which are the model's own, move freely. -/
inductive Change (s : State) : State → Prop where
  /-- Reads, register writes, rejected instructions, PROBE, and the engine's turn while BUSY = 0. -/
  | registers (is : List Input) (resp : BusResp) (a0 a1 pp pr : Word) (cr rr ps : Byte) (e : BitVec 11)
      (q n : BitVec 2) (hc : ResultUpdate s.cmdResult cr) (hr : ResultUpdate s.renderResult rr)
      (hp : ResultUpdate s.probeStatus ps) :
    Change s
      { s with
        inputs := is, resp := resp, cmdArg0 := a0, cmdArg1 := a1, probePhase := pp, probeResult := pr,
        cmdResult := cr, renderResult := rr, probeStatus := ps, error := e, irqStatus := q, irqEnable := n }
  /-- An accepted command (60_exceptions.md R105). -/
  | push (is : List Input) (e : QEntry) (c : Code) (x : BitVec 11) (f : BitVec 2) (hpush : PushOk s e) :
    Change s
      { s with
        inputs := is, resp := .writeOkay, queue := s.queue ++ [e],
        ctlTableSize := sizeAfter s.ctlTableSize e, cmdResult := codeByte c, error := x, irqStatus := f }
  /-- An accepted RENDER (42_render.md R89). -/
  | render (is : List Input) (n : BitVec 16) (haccept : Spec.acceptsRender s) (hbusy : s.busy = false)
      (hn : n.toNat ≤ s.params.outbufFrames) :
    Change s (startBlock n (applyAll { s with inputs := is, resp := .writeOkay }))
  /-- A frame step (42_render.md R91). -/
  | frame (is : List Input) (hframe : Spec.takesFrame s) : Change s (frameBody { s with inputs := is })
  /-- Reset (70_reset_and_hazards.md R120). -/
  | reset (is : List Input) (hreset : Spec.takesReset s) : Change s (resetStep { s with inputs := is })

/-- A read, or the engine's turn while BUSY = 0. -/
theorem Change.io (s : State) (is : List Input) (resp : BusResp) :
    Change s { s with inputs := is, resp := resp } :=
  .registers is resp _ _ _ _ _ _ _ _ _ _ (.inl rfl) (.inl rfl) (.inl rfl)

theorem Change.record (s : State) (is : List Input) (port : Port) (c : Code) :
    Change s (record port c { s with inputs := is, resp := .writeOkay }) := by
  cases port with
  | cmdOp => exact .registers is .writeOkay _ _ _ _ _ _ _ _ _ _ (.inr ⟨c, rfl⟩) (.inl rfl) (.inl rfl)
  | renderCtrl => exact .registers is .writeOkay _ _ _ _ _ _ _ _ _ _ (.inl rfl) (.inr ⟨c, rfl⟩) (.inl rfl)
  | probePhase => exact .registers is .writeOkay _ _ _ _ _ _ _ _ _ _ (.inl rfl) (.inl rfl) (.inr ⟨c, rfl⟩)

theorem Change.writeReg (s : State) (is : List Input) (r : Reg) (d : Word) :
    Change s (State.writeReg { s with inputs := is, resp := .writeOkay } r d) := by
  obtain ⟨a0, a1, e, q, n, h⟩ := writeReg_frame { s with inputs := is, resp := .writeOkay } r d
  rw [h]
  exact .registers is .writeOkay a0 a1 _ _ _ _ _ e q n (.inl rfl) (.inl rfl) (.inl rfl)

theorem Change.of_pushed {s t : State} {is : List Input}
    (h : Pushed { s with inputs := is, resp := .writeOkay } t) : Change s t := by
  cases h with
  | rejected c => exact .record s is .cmdOp c
  | queued e c x f hpush => exact .push is e c x f ⟨hpush.room, hpush.entry_ok, hpush.index_lt⟩

theorem Change.of_probe {s t : State} {is : List Input} {p : Word}
    (h : exec (.probe p) { s with inputs := is, resp := .writeOkay } = .next t) : Change s t := by
  simp only [exec, execProbe] at h
  split at h
  · cases h
    exact .record s is .probePhase .engineBusy
  · cases h
    exact .registers is .writeOkay _ _ _ _ _ _ _ _ _ _ (.inl rfl) (.inl rfl) (.inr ⟨.ok, rfl⟩)

/-- A RENDER that reaches RENDER_CTRL with upper half 0 starts a block or is recorded. -/
theorem Change.of_render {s t : State} {is : List Input} {d : Word} (hin : s.inputs = fullWrite 0x0050 d :: is)
    (hz : d.extractLsb' 16 16 = 0)
    (h : exec (.render (d.extractLsb' 0 16)) { s with inputs := is, resp := .writeOkay } = .next t) :
    Change s t := by
  rcases execRender_cases (d.extractLsb' 0 16) { s with inputs := is, resp := .writeOkay } with
    ⟨c, -, he⟩ | ⟨hb, hle, he⟩
  · cases he.symm.trans h
    exact .record s is .renderCtrl c
  · cases he.symm.trans h
    exact .render is _ ⟨d, is, hin, hz, hb, hle⟩ hb hle

/-- An instruction that a write to its register decodes to. -/
theorem Change.of_exec {s t : State} {is : List Input} {off : Offset} {size : AccessSize} {lanes : BitVec 4}
    {d : Word} {r : Reg} {port : Port} {i : Instr} (hin : s.inputs = .write off size lanes d :: is)
    (hr : accessReg s.params off size lanes = .ok r) (hport : portOf r = some port)
    (hdec : decode port d s.cmdArg0 s.cmdArg1 = .ok i)
    (h : exec i { s with inputs := is, resp := .writeOkay } = .next t) : Change s t := by
  cases port with
  | cmdOp => exact .of_pushed (exec_command_pushed (port_of_decode hdec) h)
  | renderCtrl =>
    obtain rfl : r = .renderCtrl := by simpa using portOf_eq_some hport
    obtain ⟨-, rfl, rfl, hreg⟩ := (accessReg_ok_iff _ _ _ _ _).1 hr
    obtain rfl : off = 0x0050 := BitVec.eq_of_toNat_eq (regAt_renderCtrl hreg)
    obtain ⟨hz, rfl⟩ := decodeRender_eq_ok hdec
    exact .of_render hin hz h
  | probePhase =>
    cases hdec
    exact .of_probe h

theorem Change.of_frameStep {s : State} {is : List Input} (h : s.inputs = [] ∨ ∃ rest, s.inputs = .frame :: rest) :
    Change s (frameStep { s with inputs := is }) := by
  rcases frameStep_cases { s with inputs := is } with ⟨-, he⟩ | ⟨hb, he⟩
  · rw [he]
    exact .io s is s.resp
  · rw [he]
    exact .frame is ⟨hb, h⟩

/-- Every step that answers a next state is one of the changes. -/
theorem step_change {s t : State} (h : step s = .next t) : Change s t := by
  rcases step_cases h with ⟨hin, rfl⟩ | ⟨is, hin, rfl⟩ | ⟨is, hin, rfl⟩ | ⟨is, off, size, r, -, -, rfl⟩ |
    ⟨is, off, size, lanes, d, r, hin, hr, hw⟩
  · exact .of_frameStep (is := s.inputs) (.inl hin)
  · exact .of_frameStep (.inr ⟨is, hin⟩)
  · exact .reset is ⟨is, hin⟩
  · exact .io s is _
  · rcases writeEffect_cases r d { s with inputs := is, resp := .writeOkay } with
      ⟨port, i, hport, hdec, he⟩ | ⟨port, e, -, -, he⟩ | ⟨-, he⟩
    · exact .of_exec hin hr hport hdec (he.symm.trans hw)
    · cases he.symm.trans hw
      exact .record s is port _
    · cases he.symm.trans hw
      exact .writeReg s is r d

end Sys2Proof.Machine
end

section
/-! PROOFS. The invariants of 10_state.md R21 to R29 and 60_exceptions.md R104: reset satisfies them and every
step keeps them. -/

open Sys2Proof Sys2Proof.Machine

namespace Sys2Proof.Machine

/-! ### What starting a block, draining the queue and a frame step leave alone -/

section Fields

variable (n : BitVec 16) (s : State)

@[simp] theorem startBlock_params : (startBlock n s).params = s.params := by
  obtain ⟨b, d, q, h⟩ := startBlock_frame n s; rw [h]
@[simp] theorem startBlock_voices : (startBlock n s).voices = s.voices := by
  obtain ⟨b, d, q, h⟩ := startBlock_frame n s; rw [h]
@[simp] theorem startBlock_tableSize : (startBlock n s).tableSize = s.tableSize := by
  obtain ⟨b, d, q, h⟩ := startBlock_frame n s; rw [h]
@[simp] theorem startBlock_mem : (startBlock n s).mem = s.mem := by
  obtain ⟨b, d, q, h⟩ := startBlock_frame n s; rw [h]
@[simp] theorem startBlock_attackStep : (startBlock n s).attackStep = s.attackStep := by
  obtain ⟨b, d, q, h⟩ := startBlock_frame n s; rw [h]
@[simp] theorem startBlock_releaseStep : (startBlock n s).releaseStep = s.releaseStep := by
  obtain ⟨b, d, q, h⟩ := startBlock_frame n s; rw [h]
@[simp] theorem startBlock_queue : (startBlock n s).queue = s.queue := by
  obtain ⟨b, d, q, h⟩ := startBlock_frame n s; rw [h]
@[simp] theorem startBlock_ctlTableSize : (startBlock n s).ctlTableSize = s.ctlTableSize := by
  obtain ⟨b, d, q, h⟩ := startBlock_frame n s; rw [h]
@[simp] theorem startBlock_frameIdx : (startBlock n s).frameIdx = 0 := by
  obtain ⟨b, d, q, h⟩ := startBlock_frame n s; rw [h]
@[simp] theorem startBlock_lastBlockFrames : (startBlock n s).lastBlockFrames = n.extractLsb' 0 13 := by
  obtain ⟨b, d, q, h⟩ := startBlock_frame n s; rw [h]
@[simp] theorem startBlock_cmdResult : (startBlock n s).cmdResult = s.cmdResult := by
  obtain ⟨b, d, q, h⟩ := startBlock_frame n s; rw [h]
@[simp] theorem startBlock_renderResult : (startBlock n s).renderResult = 0 := by
  obtain ⟨b, d, q, h⟩ := startBlock_frame n s; rw [h]
@[simp] theorem startBlock_probeStatus : (startBlock n s).probeStatus = s.probeStatus := by
  obtain ⟨b, d, q, h⟩ := startBlock_frame n s; rw [h]

/-- A block of no frames is complete at once; any other starts rendering (42_render.md R89). -/
theorem startBlock_busy (h : s.busy = false) : (startBlock n s).busy = decide (n ≠ 0) := by
  unfold startBlock; split <;> simp_all

theorem startBlock_done : (startBlock n s).done = decide (n = 0) := by
  unfold startBlock; split <;> simp_all

@[simp] theorem applyEntry_params (e : QEntry) : (applyEntry s e).params = s.params := by
  obtain ⟨vs, m, t, a, r, h⟩ := applyEntry_frame s e; rw [h]

@[simp] theorem applyAll_params : (applyAll s).params = s.params := by
  obtain ⟨vs, m, t, a, r, h⟩ := applyAll_frame s; rw [h]
@[simp] theorem applyAll_queue : (applyAll s).queue = [] := rfl
@[simp] theorem applyAll_ctlTableSize : (applyAll s).ctlTableSize = s.ctlTableSize := by
  obtain ⟨vs, m, t, a, r, h⟩ := applyAll_frame s; rw [h]
@[simp] theorem applyAll_busy : (applyAll s).busy = s.busy := by
  obtain ⟨vs, m, t, a, r, h⟩ := applyAll_frame s; rw [h]
@[simp] theorem applyAll_cmdResult : (applyAll s).cmdResult = s.cmdResult := by
  obtain ⟨vs, m, t, a, r, h⟩ := applyAll_frame s; rw [h]
@[simp] theorem applyAll_probeStatus : (applyAll s).probeStatus = s.probeStatus := by
  obtain ⟨vs, m, t, a, r, h⟩ := applyAll_frame s; rw [h]

@[simp] theorem frameBody_params : (frameBody s).params = s.params := by
  obtain ⟨vs, m, q, b, d, h, -⟩ := frameBody_frame s; rw [h]
@[simp] theorem frameBody_tableSize : (frameBody s).tableSize = s.tableSize := by
  obtain ⟨vs, m, q, b, d, h, -⟩ := frameBody_frame s; rw [h]
@[simp] theorem frameBody_attackStep : (frameBody s).attackStep = s.attackStep := by
  obtain ⟨vs, m, q, b, d, h, -⟩ := frameBody_frame s; rw [h]
@[simp] theorem frameBody_releaseStep : (frameBody s).releaseStep = s.releaseStep := by
  obtain ⟨vs, m, q, b, d, h, -⟩ := frameBody_frame s; rw [h]
@[simp] theorem frameBody_queue : (frameBody s).queue = s.queue := by
  obtain ⟨vs, m, q, b, d, h, -⟩ := frameBody_frame s; rw [h]
@[simp] theorem frameBody_ctlTableSize : (frameBody s).ctlTableSize = s.ctlTableSize := by
  obtain ⟨vs, m, q, b, d, h, -⟩ := frameBody_frame s; rw [h]
@[simp] theorem frameBody_lastBlockFrames : (frameBody s).lastBlockFrames = s.lastBlockFrames := by
  obtain ⟨vs, m, q, b, d, h, -⟩ := frameBody_frame s; rw [h]
@[simp] theorem frameBody_frameIdx : (frameBody s).frameIdx = s.frameIdx + 1 := by
  obtain ⟨vs, m, q, b, d, h, -⟩ := frameBody_frame s; rw [h]
@[simp] theorem frameBody_cmdResult : (frameBody s).cmdResult = s.cmdResult := by
  obtain ⟨vs, m, q, b, d, h, -⟩ := frameBody_frame s; rw [h]
@[simp] theorem frameBody_renderResult : (frameBody s).renderResult = s.renderResult := by
  obtain ⟨vs, m, q, b, d, h, -⟩ := frameBody_frame s; rw [h]
@[simp] theorem frameBody_probeStatus : (frameBody s).probeStatus = s.probeStatus := by
  obtain ⟨vs, m, q, b, d, h, -⟩ := frameBody_frame s; rw [h]

theorem frameBody_mem : (frameBody s).mem = s.mem.writeOutbuf s.frameIdx.toNat (mix s.frameSum) := by
  unfold frameBody; dsimp only; split <;> rfl

/-- BUSY falls, and DONE rises, exactly at the block's last frame (42_render.md R91). -/
theorem frameBody_busy (h : s.busy = true) :
    (frameBody s).busy = decide (s.frameIdx + 1 ≠ s.lastBlockFrames) := by
  unfold frameBody; dsimp only; split <;> simp_all

theorem frameBody_done (h : s.done = false) :
    (frameBody s).done = decide (s.frameIdx + 1 = s.lastBlockFrames) := by
  unfold frameBody; dsimp only; split <;> simp_all

end Fields

/-! ### Voices (10_state.md R21, R23) -/

theorem Voice.reset_ok : Voice.reset.Ok := by constructor <;> decide

theorem Voice.activate_ok {v : Voice} {inc : Word} (note : BitVec 16) (vel : Byte) (h : v.Ok) (hinc : inc ≠ 0) :
    (v.activate note vel inc).Ok where
  idle_level := nofun
  active_inc := fun _ => hinc
  sustain_level := nofun
  level_le := h.level_le

theorem Voice.release_ok {v : Voice} (h : v.Ok) : v.release.Ok := by
  unfold Voice.release
  split
  next hs => exact ⟨nofun, fun _ => h.active_inc (by simp [hs]), nofun, h.level_le⟩
  next hs => exact ⟨nofun, fun _ => h.active_inc (by simp [hs]), nofun, h.level_le⟩
  next => exact h
  next => exact h

theorem Voice.silence_ok (v : Voice) : v.silence.Ok where
  idle_level := fun _ => rfl
  active_inc := fun h => absurd rfl h
  sustain_level := nofun
  level_le := Nat.zero_le _

/-- The phase is in none of R21's clauses. -/
theorem Voice.withPhase_ok {v : Voice} (p : Word) (h : v.Ok) : ({ v with phase := p } : Voice).Ok :=
  ⟨h.idle_level, h.active_inc, h.sustain_level, h.level_le⟩

/-- The attack reaches Sustain exactly at full level, the release Idle exactly at level 0. -/
theorem Voice.envStep_ok {v : Voice} (a r : BitVec 25) (h : v.Ok) : (v.envStep a r).Ok := by
  cases hs : v.stage with
  | idle => rwa [envStep_idle a r hs]
  | sustain => rwa [envStep_sustain a r hs]
  | attack =>
    have hinc : v.inc ≠ 0 := h.active_inc (by simp [hs])
    have hlevel := envStep_attack_level a r hs
    have hstage := envStep_attack_stage a r hs
    refine ⟨fun hi => ?_, fun _ => by simpa using hinc, fun hsus => ?_, by omega⟩
    · rw [hstage] at hi
      split at hi <;> cases hi
    · rw [hstage] at hsus
      split at hsus
      · omega
      · cases hsus
  | release =>
    have hinc : v.inc ≠ 0 := h.active_inc (by simp [hs])
    have hlevel := envStep_release_level a r hs
    have hstage := envStep_release_stage a r hs
    have hle := h.level_le
    refine ⟨fun hi => ?_, fun _ => by simpa using hinc, fun hsus => ?_, by omega⟩
    · rw [hstage] at hi
      split at hi
      · exact BitVec.eq_of_toNat_eq (by rw [hlevel]; simpa using by omega)
      · cases hi
    · rw [hstage] at hsus
      split at hsus <;> cases hsus

theorem voiceFrame_ok (s : State) {v : Voice} (h : v.Ok) : (s.voiceFrame v).1.Ok := by
  by_cases hs : v.stage = .idle
  · rwa [voiceFrame_idle s hs]
  · rw [voiceFrame_active s hs]
    exact Voice.envStep_ok _ _ (Voice.withPhase_ok _ h)

/-- The voices' invariants depend on the parameters, the voices and the envelope steps only. -/
theorem VoicesOk.congr {s t : State} (h : VoicesOk s) (hp : t.params = s.params) (hv : t.voices = s.voices)
    (ha : t.attackStep = s.attackStep) (hr : t.releaseStep = s.releaseStep) : VoicesOk t where
  length_eq := by rw [hv, hp, h.length_eq]
  voice_ok := hv ▸ h.voice_ok
  attack_ok := ha ▸ h.attack_ok
  release_ok := hr ▸ h.release_ok

theorem VoicesOk.of_updateVoice {s : State} {k : ℕ} {f : Voice → Voice} (h : VoicesOk s)
    (hf : ∀ v : Voice, v.Ok → (f v).Ok) : VoicesOk (s.updateVoice k f) where
  length_eq := by simpa using h.length_eq
  voice_ok := fun x hx => by
    rcases mem_updateVoice hx with hx | ⟨y, hy, rfl⟩
    · exact h.voice_ok x hx
    · exact hf y (h.voice_ok y hy)
  attack_ok := h.attack_ok
  release_ok := h.release_ok

/-- A validated command keeps the voices' invariants (42_render.md R90). -/
theorem VoicesOk.applyEntry {s : State} {e : QEntry} (h : VoicesOk s) (he : e.Ok s.params) :
    VoicesOk (applyEntry s e) := by
  unfold Machine.applyEntry
  split
  next => exact h
  next => exact h.congr rfl rfl rfl rfl
  next => exact h.congr rfl rfl rfl rfl
  next hop => exact h.of_updateVoice fun v hv => v.activate_ok _ _ hv (he.inc_ne hop)
  next => exact h.of_updateVoice fun v hv => v.release_ok hv
  next => exact h.of_updateVoice fun v _ => v.silence_ok
  next =>
    refine ⟨by simpa [applyResetAll] using h.length_eq, fun x hx => ?_, h.attack_ok, h.release_ok⟩
    obtain ⟨v, -, rfl⟩ := List.mem_map.1 hx
    exact v.silence_ok
  next hop => exact ⟨h.length_eq, h.voice_ok, (he.steps_range hop).1, (he.steps_range hop).2⟩
  next => exact h

theorem VoicesOk.applyAll {s : State} (h : VoicesOk s) (hq : ∀ e ∈ s.queue, e.Ok s.params) :
    VoicesOk (applyAll s) := by
  have hfold : VoicesOk (s.queue.foldl Machine.applyEntry s) ∧
      (s.queue.foldl Machine.applyEntry s).params = s.params :=
    List.foldlRecOn (motive := fun t => VoicesOk t ∧ t.params = s.params) s.queue Machine.applyEntry ⟨h, rfl⟩
      fun t ⟨ht, hp⟩ e he => ⟨ht.applyEntry (hp ▸ hq e he), by rw [applyEntry_params, hp]⟩
  obtain ⟨hv, -⟩ := hfold
  exact hv.congr rfl rfl rfl rfl

theorem VoicesOk.startBlock {s : State} (n : BitVec 16) (h : VoicesOk s) : VoicesOk (startBlock n s) :=
  h.congr (by simp) (by simp) (by simp) (by simp)

theorem VoicesOk.frameBody {s : State} (h : VoicesOk s) : VoicesOk (frameBody s) where
  length_eq := by simpa [frameBody_voices] using h.length_eq
  voice_ok := fun x hx => by
    rw [frameBody_voices] at hx
    obtain ⟨v, hv, rfl⟩ := List.mem_map.1 hx
    exact voiceFrame_ok s (h.voice_ok v hv)
  attack_ok := by simpa using h.attack_ok
  release_ok := by simpa using h.release_ok

theorem VoicesOk.resetWith (p : Params) : VoicesOk (State.resetWith p) where
  length_eq := List.length_replicate
  voice_ok := fun _ hx => List.eq_of_mem_replicate hx ▸ Voice.reset_ok
  attack_ok := by simp [StepOk, State.resetWith, Config.envOne]
  release_ok := by simp [StepOk, State.resetWith, Config.envOne]

theorem VoicesOk.change {s t : State} (h : VoicesOk s) (hq : QueueOk s) (hst : Change s t) : VoicesOk t := by
  cases hst with
  | registers => exact h.congr rfl rfl rfl rfl
  | push => exact h.congr rfl rfl rfl rfl
  | render is n =>
    have hs : VoicesOk { s with inputs := is, resp := .writeOkay } := h.congr rfl rfl rfl rfl
    exact (hs.applyAll hq.entry_ok).startBlock n
  | frame is =>
    have hs : VoicesOk { s with inputs := is } := h.congr rfl rfl rfl rfl
    exact hs.frameBody
  | reset => exact (VoicesOk.resetWith s.params).congr rfl rfl rfl rfl

/-- R21 (e): at most P voices are non-Idle. -/
theorem VoicesOk.countP_active_le {s : State} (h : VoicesOk s) :
    s.voices.countP Voice.active ≤ s.params.numVoices :=
  h.length_eq ▸ List.countP_le_length

/-! ### The queue (10_state.md R25) -/

theorem QueueOk.change {s t : State} (h : QueueOk s) (hst : Change s t) : QueueOk t := by
  obtain ⟨hlen, hok⟩ := h
  cases hst with
  | registers => exact ⟨hlen, hok⟩
  | push is e c x f hpush =>
    have hroom := hpush.room
    refine ⟨?_, fun e' he' => ?_⟩
    · simp only [List.length_append, List.length_singleton]
      omega
    · rcases List.mem_append.1 he' with he' | he'
      · exact hok e' he'
      · exact List.mem_singleton.1 he' ▸ hpush.entry_ok
  | render => constructor <;> simp
  | frame => exact ⟨by simpa using hlen, by simpa using hok⟩
  | reset => exact ⟨Nat.zero_le _, nofun⟩

/-! ### The table sizes (10_state.md R22, R26) -/

/-- Applying a command to the table size is `sizeAfter` (40_table.md R75). -/
theorem applyEntry_tableSize (s : State) (e : QEntry) : (applyEntry s e).tableSize = sizeAfter s.tableSize e := by
  by_cases h1 : e.opcode.toNat = 1
  · rw [sizeAfter_configure h1, applyEntry, h1]
    rfl
  · rw [sizeAfter_of_ne h1]
    unfold applyEntry
    split
    case h_2 hop => exact absurd hop h1
    all_goals rfl

theorem foldl_applyEntry_tableSize (q : List QEntry) (s : State) :
    (q.foldl applyEntry s).tableSize = q.foldl sizeAfter s.tableSize := by
  induction q generalizing s with
  | nil => rfl
  | cons e q ih => rw [List.foldl_cons, List.foldl_cons, ih, applyEntry_tableSize]

theorem applyAll_tableSize (s : State) : (applyAll s).tableSize = s.queue.foldl sizeAfter s.tableSize :=
  foldl_applyEntry_tableSize s.queue s

/-- A validated queue leaves a table of at most TABLE_MAX words. -/
theorem foldl_sizeAfter_le {p : Params} {q : List QEntry} {n : Word} (hq : ∀ e ∈ q, e.Ok p)
    (hn : n.toNat ≤ p.tableMax) : (q.foldl sizeAfter n).toNat ≤ p.tableMax :=
  List.foldlRecOn (motive := fun m => m.toNat ≤ p.tableMax) q sizeAfter hn fun m hm e he => by
    by_cases h1 : e.opcode.toNat = 1
    · rw [sizeAfter_configure h1]
      exact ((hq e he).size_range h1).2
    · rwa [sizeAfter_of_ne h1]

/-- The index of a command at the queue's end is held to the size the queue before it leaves. -/
theorem indicesFit_append_singleton {q : List QEntry} {n : Word} {e : QEntry} :
    indicesFit n (q ++ [e]) ↔
      indicesFit n q ∧ (e.opcode.toNat = 2 → e.arg0.toNat < (q.foldl sizeAfter n).toNat) := by
  induction q generalizing n with
  | nil => simp [indicesFit]
  | cons e' q ih => simp only [List.cons_append, indicesFit, List.foldl_cons, ih, and_assoc]

theorem TableSizesOk.change {s t : State} (h : TableSizesOk s) (hq : QueueOk s) (hst : Change s t) :
    TableSizesOk t := by
  obtain ⟨hle, hctl, hfit⟩ := h
  cases hst with
  | registers => exact ⟨hle, hctl, hfit⟩
  | push is e c x f hpush =>
    refine ⟨hle, ?_, ?_⟩
    · simp only [List.foldl_append, List.foldl_cons, List.foldl_nil, hctl]
    · exact indicesFit_append_singleton.2 ⟨hfit, hctl ▸ hpush.index_lt⟩
  | render =>
    constructor
    case published_le => simpa [applyAll_tableSize] using foldl_sizeAfter_le hq.entry_ok hle
    case control_eq => simpa [applyAll_tableSize] using hctl
    case indices_fit => simp [indicesFit]
  | frame => exact ⟨by simpa using hle, by simpa using hctl, by simpa using hfit⟩
  | reset => exact ⟨Nat.zero_le _, rfl, trivial⟩

/-! ### The render sequencer (10_state.md R28) -/

/-- A frame count within OUTBUF_FRAMES fits the 13 bits of LAST_BLOCK_FRAMES (00_scope.md R7). -/
theorem frameCount_toNat {p : Params} {n : BitVec 16} (hp : p.Legal) (hn : n.toNat ≤ p.outbufFrames) :
    (n.extractLsb' 0 13).toNat = n.toNat := by
  obtain ⟨-, -, -, -, hmax⟩ := hp
  rw [BitVec.extractLsb'_toNat, Nat.shiftRight_zero]
  exact Nat.mod_eq_of_lt (by omega)

theorem SequencerOk.startBlock {s : State} {n : BitVec 16} (hp : s.params.Legal) (hb : s.busy = false)
    (hn : n.toNat ≤ s.params.outbufFrames) : SequencerOk (startBlock n s) := by
  have hlast : (Machine.startBlock n s).lastBlockFrames.toNat = n.toNat := by
    rw [startBlock_lastBlockFrames, frameCount_toNat hp hn]
  constructor
  case busy_iff =>
    rw [startBlock_busy n s hb, hlast, startBlock_frameIdx, decide_eq_true_eq]
    bv_omega
  case idx_le => simp
  case frames_le => rwa [hlast, startBlock_params]
  case busy_not_done => simp [startBlock_busy, startBlock_done, hb]

/-- While BUSY = 1 the index is below the block's length, so one more frame stays within it. -/
theorem SequencerOk.frameBody {s : State} (h : SequencerOk s) (hb : s.busy = true) : SequencerOk (frameBody s) := by
  obtain ⟨hbusy, -, hframes, hdone⟩ := h
  have hlt := hbusy.1 hb
  have hidx : (Machine.frameBody s).frameIdx.toNat = s.frameIdx.toNat + 1 := by
    rw [frameBody_frameIdx]
    bv_omega
  constructor
  case busy_iff =>
    rw [frameBody_busy s hb, hidx, frameBody_lastBlockFrames, decide_eq_true_eq]
    bv_omega
  case idx_le => rwa [hidx, frameBody_lastBlockFrames]
  case frames_le => rwa [frameBody_lastBlockFrames, frameBody_params]
  case busy_not_done => simp [frameBody_busy s hb, frameBody_done s (hdone hb)]

theorem SequencerOk.resetWith (p : Params) : SequencerOk (State.resetWith p) := by
  constructor <;> simp [State.resetWith]

theorem SequencerOk.change {s t : State} (h : SequencerOk s) (hp : s.params.Legal) (hst : Change s t) :
    SequencerOk t := by
  cases hst with
  | registers => exact ⟨h.busy_iff, h.idx_le, h.frames_le, h.busy_not_done⟩
  | push => exact ⟨h.busy_iff, h.idx_le, h.frames_le, h.busy_not_done⟩
  | render is n _ hb hn => exact .startBlock (by simpa using hp) (by simpa using hb) (by simpa using hn)
  | frame is hframe =>
    have hs : SequencerOk { s with inputs := is } := ⟨h.busy_iff, h.idx_le, h.frames_le, h.busy_not_done⟩
    exact hs.frameBody hframe.1
  | reset =>
    obtain ⟨hbusy, hidx, hframes, hdone⟩ := SequencerOk.resetWith s.params
    exact ⟨hbusy, hidx, hframes, hdone⟩

/-! ### The word stores (10_state.md R22, R29) -/

theorem applyEntry_wf {s : State} {e : QEntry} (h : s.mem.wf = true) : (applyEntry s e).mem.wf = true := by
  unfold applyEntry
  split
  case h_2 => exact Memory.wf_zeroTable h
  case h_3 => exact Memory.wf_writeTable _ _ h
  all_goals exact h

theorem applyAll_wf {s : State} (h : s.mem.wf = true) : (applyAll s).mem.wf = true :=
  List.foldlRecOn (motive := fun t => t.mem.wf = true) s.queue applyEntry h fun _ ht _ _ => applyEntry_wf ht

theorem Change.wf {s t : State} (h : s.mem.wf = true) (hst : Change s t) : t.mem.wf = true := by
  cases hst with
  | registers => exact h
  | push => exact h
  | render is n =>
    rw [startBlock_mem]
    exact applyAll_wf h
  | frame is =>
    rw [frameBody_mem]
    exact Memory.wf_writeOutbuf _ _ h
  | reset => rfl

/-- A listed table word lies below TABLE_SIZE: CONFIGURE drops every word, and a WRSAMPLE's index is below the
size at its turn. -/
def TableBounded (s : State) : Prop := ∀ c ∈ s.mem.table, c.1 < s.tableSize.toNat

theorem mem_writeTable {m : Memory} {i : ℕ} {w : Word} {c : ℕ × Word} (h : c ∈ (m.writeTable i w).table) :
    c.1 = i ∨ c ∈ m.table := by
  unfold Memory.writeTable at h
  split at h
  · exact .inr (mem_cellErase h)
  · exact (mem_cellWrite h).imp_left (congrArg Prod.fst)

theorem TableBounded.applyEntry {s : State} {e : QEntry} (h : TableBounded s)
    (he : e.opcode.toNat = 2 → e.arg0.toNat < s.tableSize.toNat) : TableBounded (applyEntry s e) := by
  unfold Machine.applyEntry
  split
  case h_2 => exact nofun
  case h_3 hop =>
    intro c hc
    rcases mem_writeTable hc with hc | hc
    · exact hc ▸ he hop
    · exact h c hc
  all_goals exact h

theorem TableBounded.foldl {q : List QEntry} {s : State} (h : TableBounded s) (hq : indicesFit s.tableSize q) :
    TableBounded (q.foldl Machine.applyEntry s) := by
  induction q generalizing s with
  | nil => exact h
  | cons e q ih =>
    obtain ⟨he, hrest⟩ := hq
    exact ih (h.applyEntry he) (applyEntry_tableSize s e ▸ hrest)

theorem StoresOk.change {s t : State} (h : StoresOk s) (hsizes : TableSizesOk s) (hseq : SequencerOk s)
    (hst : Change s t) : StoresOk t := by
  have hwf := hst.wf h.canonical
  obtain ⟨-, htable, hout⟩ := h
  cases hst with
  | registers => exact ⟨hwf, htable, hout⟩
  | push => exact ⟨hwf, htable, hout⟩
  | render is n =>
    have hbounded : TableBounded (applyAll { s with inputs := is, resp := .writeOkay }) :=
      TableBounded.foldl (s := { s with inputs := is, resp := .writeOkay }) htable hsizes.indices_fit
    refine ⟨hwf, ?_, by simpa [applyAll_outbuf] using hout⟩
    rw [startBlock_mem, startBlock_tableSize]
    exact hbounded
  | frame is hframe =>
    refine ⟨hwf, by simpa [frameBody_mem] using htable, fun c hc => ?_⟩
    rw [frameBody_mem] at hc
    rw [frameBody_params]
    rcases mem_cellWrite hc with rfl | hc
    · exact lt_of_lt_of_le (hseq.busy_iff.1 hframe.1) hseq.frames_le
    · exact hout c hc
  | reset => exact ⟨hwf, nofun, nofun⟩

/-! ### The result registers (60_exceptions.md R104) -/

theorem codeByte_le (c : Code) : (codeByte c).toNat ≤ 11 := by cases c <;> decide

theorem ResultUpdate.le {old new : Byte} (h : ResultUpdate old new) (hold : old.toNat ≤ 11) : new.toNat ≤ 11 := by
  rcases h with rfl | ⟨c, rfl⟩
  · exact hold
  · exact codeByte_le c

theorem CodesOk.change {s t : State} (h : CodesOk s) (hst : Change s t) : CodesOk t := by
  obtain ⟨hcmd, hrender, hprobe⟩ := h
  cases hst with
  | registers is resp a0 a1 pp pr cr rr ps e q n hc hr hp => exact ⟨hc.le hcmd, hr.le hrender, hp.le hprobe⟩
  | push is e c => exact ⟨codeByte_le c, hrender, hprobe⟩
  | render => exact ⟨by simpa using hcmd, by simp, by simpa using hprobe⟩
  | frame => exact ⟨by simpa using hcmd, by simpa using hrender, by simpa using hprobe⟩
  | reset => constructor <;> exact Nat.zero_le _

/-! ### The whole invariant -/

/-- No step changes the implementation parameters (log 1). -/
theorem Change.params {s t : State} (hst : Change s t) : t.params = s.params := by
  cases hst with
  | registers => rfl
  | push => rfl
  | render => simp
  | frame => simp
  | reset => rfl

/-- Only an accepted RENDER and reset change the published table and the envelope steps. -/
theorem Change.published {s t : State} (hst : Change s t) :
    (t.tableSize = s.tableSize ∧ t.mem.table = s.mem.table ∧ t.attackStep = s.attackStep ∧
      t.releaseStep = s.releaseStep) ∨ Spec.acceptsRender s ∨ Spec.takesReset s := by
  cases hst with
  | registers => exact .inl ⟨rfl, rfl, rfl, rfl⟩
  | push => exact .inl ⟨rfl, rfl, rfl, rfl⟩
  | render is n haccept => exact .inr (.inl haccept)
  | frame => exact .inl (by simp [frameBody_mem])
  | reset is hreset => exact .inr (.inr hreset)

/-- Only an accepted RENDER, a frame step and reset change the voices. -/
theorem Change.voices {s t : State} (hst : Change s t) :
    t.voices = s.voices ∨ Spec.acceptsRender s ∨ Spec.takesReset s ∨ Spec.takesFrame s := by
  cases hst with
  | registers => exact .inl rfl
  | push => exact .inl rfl
  | render is n haccept => exact .inr (.inl haccept)
  | frame is hframe => exact .inr (.inr (.inr hframe))
  | reset is hreset => exact .inr (.inr (.inl hreset))

/-- Only a frame step and reset change the output buffer: draining the queue leaves it. -/
theorem Change.outbuf {s t : State} (hst : Change s t) :
    t.mem.outbuf = s.mem.outbuf ∨ Spec.takesReset s ∨ Spec.takesFrame s := by
  cases hst with
  | registers => exact .inl rfl
  | push => exact .inl rfl
  | render => exact .inl (by simp [applyAll_outbuf])
  | frame is hframe => exact .inr (.inr hframe)
  | reset is hreset => exact .inr (.inl hreset)

theorem Inv.change {s t : State} (h : Inv s) (hst : Change s t) : Inv t where
  params_legal := hst.params ▸ h.params_legal
  voices_ok := h.voices_ok.change h.queue_ok hst
  queue_ok := h.queue_ok.change hst
  sizes_ok := h.sizes_ok.change h.queue_ok hst
  sequencer_ok := h.sequencer_ok.change h.params_legal hst
  stores_ok := h.stores_ok.change h.sizes_ok h.sequencer_ok hst
  codes_ok := h.codes_ok.change hst

theorem Inv.resetWith {p : Params} (hp : p.Legal) : Inv (State.resetWith p) where
  params_legal := hp
  voices_ok := .resetWith p
  queue_ok := ⟨Nat.zero_le _, nofun⟩
  sizes_ok := ⟨Nat.zero_le _, rfl, trivial⟩
  sequencer_ok := .resetWith p
  stores_ok := ⟨rfl, nofun, nofun⟩
  codes_ok := by constructor <;> exact Nat.zero_le _

end Sys2Proof.Machine

namespace Sys2Proof.Laws

/-- Settles O51: validated commands and the frame step keep R21 (a) to (d) voice by voice. -/
theorem stepKeepsVoiceInvariants : Obligations.StepKeepsVoiceInvariants := fun _ _ hv hq h =>
  have ht := hv.change hq (step_change h)
  ⟨ht, ht.countP_active_le⟩

/-- Settles O56: each part of the invariant is kept, with the parts it leans on. -/
theorem stepKeepsInvariant : Obligations.StepKeepsInvariant := fun _ _ hs h => hs.change (step_change h)

/-- Settles O57: of the five changes only the accepted RENDER, the frame step and reset touch what is applied. -/
theorem appliedStateChangesOnlyAtBlockStart : Obligations.AppliedStateChangesOnlyAtBlockStart := by
  intro s t h
  have hst := step_change h
  refine ⟨fun hne => ?_, fun hne => hst.voices.resolve_left hne, fun hne => hst.outbuf.resolve_left hne,
    hst.params⟩
  exact hst.published.resolve_left fun ⟨hn, hm, ha, hr⟩ => by simp [hn, hm, ha, hr] at hne

/-- Settles O52: the push checks validate what they queue. -/
theorem stepKeepsQueueValidated : Obligations.StepKeepsQueueValidated := fun _ _ hq h => hq.change (step_change h)

/-- Settles O53: an accepted CONFIGURE moves CTL_TABLE_SIZE to the size its apply will publish. -/
theorem stepKeepsTableSizes : Obligations.StepKeepsTableSizes := fun _ _ hq hs h => hs.change hq (step_change h)

/-- Settles O54: a block starts at index 0 and falls idle at its last frame. -/
theorem stepKeepsSequencer : Obligations.StepKeepsSequencer := fun _ _ hp hs h => hs.change hp (step_change h)

/-- Settles O55: each store operation keeps the canonical form. -/
theorem stepKeepsStoresCanonical : Obligations.StepKeepsStoresCanonical := fun _ _ hw h => (step_change h).wf hw

/-- Settles O50: every element at its value of 10_state.md R50. -/
theorem resetSatisfiesInvariant : Obligations.ResetSatisfiesInvariant := fun _ hp => .resetWith hp

end Sys2Proof.Laws
end

section
/-! PROOFS. What the registers and flags read as, bit by bit (10_state.md R27 to R48), and the acknowledgement of
ERROR and IRQ_STATUS (60_exceptions.md R111). -/

open Sys2Proof Sys2Proof.Machine

namespace Sys2Proof.Machine

/-! ### Flags and masks -/

theorem getLsbD_flagBit (b : Bool) (n k : ℕ) :
    (flagBit b n).getLsbD k = (b && decide (k = n) && decide (k < 32)) := by
  cases b with
  | false => simp [flagBit]
  | true =>
    rw [flagBit, if_pos rfl, BitVec.getLsbD_ofNat, Nat.testBit_two_pow, Bool.true_and, Bool.and_comm]
    simp only [eq_comm]

/-- A mask built flag by flag has bit `k` where a listed flag `k` is set. -/
theorem getLsbD_foldl_flagBit (f : ℕ → Bool) (l : List ℕ) (acc : Word) {k : ℕ} (hk : k < 32) :
    (l.foldl (fun acc b => acc ||| flagBit (f b) b) acc).getLsbD k =
      (acc.getLsbD k || (decide (k ∈ l) && f k)) := by
  induction l generalizing acc with
  | nil => simp
  | cons b l ih =>
    rw [List.foldl_cons, ih, BitVec.getLsbD_or, getLsbD_flagBit]
    by_cases hkb : k = b
    · subst hkb
      cases f k <;> simp [hk]
    · simp [hkb]

theorem getLsbD_activeMask (s : State) (j : ℕ) {b : ℕ} (hb : b < 32) :
    (s.activeMask j).getLsbD b = s.slotActive (32 * j + b) := by
  rw [State.activeMask, getLsbD_foldl_flagBit (fun b => s.slotActive (32 * j + b)) _ _ hb]
  simp [hb]

theorem slotActive_iff (s : State) (v : ℕ) :
    s.slotActive v = true ↔ ∃ x, s.voices[v]? = some x ∧ x.stage ≠ .idle := by
  unfold State.slotActive
  cases s.voices[v]? <;> simp [Voice.active]

theorem slotActive_resetWith (p : Params) (v : ℕ) : (State.resetWith p).slotActive v = false := by
  rw [Bool.eq_false_iff, Ne, slotActive_iff]
  rintro ⟨x, hx, hne⟩
  exact hne (by rw [List.eq_of_mem_replicate (List.mem_of_getElem? hx)]; rfl)

theorem activeMask_resetWith (p : Params) (j : ℕ) : (State.resetWith p).activeMask j = 0 := by
  ext b hb
  rw [← BitVec.getLsbD_eq_getElem, getLsbD_activeMask _ _ hb, slotActive_resetWith]
  simp

theorem regAt_activeMask (p : Params) {j : ℕ} (hj : j < 8) : regAt p (0x0080 + 4 * j) = some (.activeMask j) := by
  unfold regAt
  rw [if_neg (by omega), if_pos (by omega), if_pos (by omega)]
  congr 2
  omega

theorem getLsbD_statusWord (s : State) (n : ℕ) :
    s.statusWord.getLsbD n =
      (s.busy && decide (n = 0) || s.done && decide (n = 1) || s.tableReady && decide (n = 2) ||
        s.cmdqEmpty && decide (n = 3) || s.cmdqFull && decide (n = 4)) := by
  simp only [State.statusWord, BitVec.getLsbD_or, getLsbD_flagBit]
  by_cases hn : n < 32
  · simp [hn]
  · have hbits : n ≠ 0 ∧ n ≠ 1 ∧ n ≠ 2 ∧ n ≠ 3 ∧ n ≠ 4 := by omega
    simp [hbits]

/-- Only CMDQ_EMPTY is set at reset: no table, no block, and an empty queue with room. -/
theorem statusWord_resetWith {p : Params} (hp : p.Legal) : (State.resetWith p).statusWord = 0x00000008 := by
  obtain ⟨-, -, ⟨hdepth, -⟩, -⟩ := hp
  have hbusy : (State.resetWith p).busy = false := rfl
  have hdone : (State.resetWith p).done = false := rfl
  have hready : (State.resetWith p).tableReady = false := rfl
  have hempty : (State.resetWith p).cmdqEmpty = true := rfl
  have hfull : (State.resetWith p).cmdqFull = false := by
    simpa [State.cmdqFull, State.resetWith] using by omega
  rw [State.statusWord, hbusy, hdone, hready, hempty, hfull]
  decide

/-! ### Acknowledgement and recording -/

theorem getLsbD_clear {w : ℕ} (x : BitVec w) (d : Word) {k : ℕ} (hk : k < w) :
    (x &&& ~~~(d.extractLsb' 0 w)).getLsbD k = (x.getLsbD k && !d.getLsbD k) := by
  simp [hk]

theorem getLsbD_errorBit {c : Code} (hc : c ≠ .ok) {k : ℕ} (hk : k < 11) :
    (errorBit c).getLsbD k = decide (k = codeNum c - 1) := by
  have hne : codeNum c ≠ 0 := by cases c <;> simp_all [codeNum]
  rw [errorBit, if_neg hne, BitVec.getLsbD_ofNat, Nat.testBit_two_pow]
  simp [hk, eq_comm]

@[simp] theorem record_error (p : Port) (c : Code) (s : State) : (record p c s).error = s.error ||| errorBit c := by
  cases p <;> rfl

theorem writeReg_error (s : State) (d : Word) :
    s.writeReg .error d = { s with error := s.error &&& ~~~(d.extractLsb' 0 11) } := rfl

theorem writeReg_irqStatus (s : State) (d : Word) :
    s.writeReg .irqStatus d = { s with irqStatus := s.irqStatus &&& ~~~(d.extractLsb' 0 2) } := rfl

/-- The step of a write to ERROR clears the bits written 1 and changes no other element (10_state.md R34). -/
theorem step_errorWrite {s : State} {d : Word} {rest : List Input} (h : s.inputs = fullWrite 0x0014 d :: rest) :
    step s = .next
      { s with inputs := rest, resp := .writeOkay, error := s.error &&& ~~~(d.extractLsb' 0 11) } :=
  step_fullWrite h rfl rfl

/-- The step of a write to IRQ_STATUS clears the bits written 1 and changes no other element (10_state.md R35). -/
theorem step_irqStatusWrite {s : State} {d : Word} {rest : List Input}
    (h : s.inputs = fullWrite 0x0020 d :: rest) :
    step s = .next
      { s with inputs := rest, resp := .writeOkay, irqStatus := s.irqStatus &&& ~~~(d.extractLsb' 0 2) } :=
  step_fullWrite h rfl rfl

/-- Every bit written 1 clears the whole of ERROR. -/
theorem clear_allOnes (x : BitVec 11) : x &&& ~~~((0xFFFFFFFF : Word).extractLsb' 0 11) = 0 := by
  have hmask : (0xFFFFFFFF : Word).extractLsb' 0 11 = BitVec.allOnes 11 := by decide
  rw [hmask, BitVec.not_allOnes, BitVec.and_zero]
  rfl

theorem runInputs_asmClearErr (s : State) :
    Spec.runInputs asmClearErr s =
      some { s with
        resp := .writeOkay, error := 0,
        irqStatus := s.irqStatus &&& ~~~((0x00000002 : Word).extractLsb' 0 2) } := by
  rw [← clear_allOnes s.error]
  rfl

/-! ### Register values -/

/-- Two fields side by side, as a number. -/
theorem toNat_append_eq {m n : ℕ} (x : BitVec m) (y : BitVec n) :
    (x ++ y).toNat = y.toNat + 2 ^ n * x.toNat := by
  rw [BitVec.toNat_append, ← Nat.shiftLeft_add_eq_or_of_lt y.isLt, Nat.shiftLeft_eq]
  ring

/-- A number that fits its field is read back unchanged. -/
theorem toNat_ofNat_of_lt {w n : ℕ} (h : n < 2 ^ w) : (BitVec.ofNat w n).toNat = n := by
  rw [BitVec.toNat_ofNat, Nat.mod_eq_of_lt h]

section Legal

variable {s : State} (hp : s.params.Legal)
include hp

theorem readReg_caps0 : (s.readReg .caps0).toNat = s.params.numVoices + 2 ^ 16 * s.params.cmdqDepth := by
  obtain ⟨⟨-, hvoices⟩, -, ⟨-, hdepth⟩, -⟩ := hp
  rw [State.readReg, toNat_append_eq, toNat_ofNat_of_lt (by omega), toNat_ofNat_of_lt (by omega)]

theorem readReg_caps1 : (s.readReg .caps1).toNat = s.params.tableMax := by
  obtain ⟨-, ⟨-, hmax⟩, -⟩ := hp
  exact toNat_ofNat_of_lt (by omega)

theorem readReg_caps2 : (s.readReg .caps2).toNat = s.params.outbufFrames := by
  obtain ⟨-, -, -, -, hframes⟩ := hp
  rw [State.readReg, toNat_append_eq, toNat_ofNat_of_lt (by omega)]
  rfl

theorem readReg_cmdqLevel (hq : s.queue.length ≤ s.params.cmdqDepth) :
    (s.readReg .cmdqLevel).toNat = s.queue.length := by
  obtain ⟨-, -, ⟨-, hdepth⟩, -⟩ := hp
  rw [State.readReg, toNat_append_eq, toNat_ofNat_of_lt (by omega)]
  rfl

end Legal

/-- FRAME_COUNT_LO and FRAME_COUNT_HI are the two halves of the count (10_state.md R37). -/
theorem readReg_frameCount (s : State) :
    (s.readReg .frameCountLo).toNat + 2 ^ 32 * (s.readReg .frameCountHi).toNat = s.frameCount.toNat := by
  have hhalves : s.frameCount.extractLsb' 32 32 ++ s.frameCount.extractLsb' 0 32 = s.frameCount := by
    rw [BitVec.extractLsb'_append_extractLsb'_eq_extractLsb' (by rfl)]
    exact BitVec.extractLsb'_eq_self
  rw [← toNat_append_eq, State.readReg, State.readReg, hhalves]

/-- A voice's window reads that voice (10_state.md R48). -/
theorem readReg_voice {s : State} {n : ℕ} {v : Voice} (h : s.voices[n]? = some v) (f : VoiceReg) :
    s.readReg (.voice n f) = readVoiceReg v f := by
  rw [State.readReg, h, Option.getD_some]

theorem readVoiceReg_noteVel (v : Voice) :
    (readVoiceReg v .noteVel).toNat = v.note.toNat + 2 ^ 16 * v.vel.toNat := by
  rw [readVoiceReg, toNat_append_eq, toNat_append_eq]
  simp

/-- An output entry that a frame has written reads its word (10_state.md R29). -/
theorem readReg_outbuf {s : State} {k : ℕ} {w : Word} (h : s.mem.readOutbuf k = some w) :
    s.readReg (.outbuf k) = w := by
  rw [State.readReg, h, Option.getD_some]

end Sys2Proof.Machine

namespace Sys2Proof.Laws

/-- Settles O42: the mask is the fold of one flag per slot. -/
theorem activeMaskBits : Obligations.ActiveMaskBits := by
  refine ⟨fun s j b hlen hb => ?_, fun p j hj => regAt_activeMask p hj, fun _ _ _ => ⟨rfl, rfl⟩,
    activeMask_resetWith⟩
  have hbit : (s.readReg (.activeMask j)).getLsbD b = s.slotActive (32 * j + b) := getLsbD_activeMask s j hb
  rw [hbit, slotActive_iff]
  refine ⟨fun ⟨v, hv, hne⟩ => ⟨?_, v, hv, hne⟩, fun ⟨_, hv⟩ => hv⟩
  exact hlen ▸ (List.getElem?_eq_some_iff.1 hv).1

/-- Settles O41: each bit is its flag. -/
theorem statusWordBits : Obligations.StatusWordBits := by
  refine ⟨fun s d => ⟨rfl, rfl, rfl, rfl⟩, fun s => ⟨?_, fun n hn => ?_⟩, fun p hp => statusWord_resetWith hp⟩
  · simp only [getLsbD_statusWord]
    simp [State.tableReady, State.cmdqEmpty, State.cmdqFull, bne, beq_eq_decide]
  · have hbits : n ≠ 0 ∧ n ≠ 1 ∧ n ≠ 2 ∧ n ≠ 3 ∧ n ≠ 4 := by omega
    simp [getLsbD_statusWord, hbits]

/-- Settles O43: a write masks with the complement of its data, recording sets the code's bit. -/
theorem errorAndIrqAreWriteOneToClear : Obligations.ErrorAndIrqAreWriteOneToClear := by
  intro s d
  refine ⟨fun rest h => ⟨_, step_errorWrite h, fun k hk => getLsbD_clear _ d hk⟩,
    fun rest h => ⟨_, step_irqStatusWrite h, fun k hk => getLsbD_clear _ d hk⟩,
    ⟨_, runInputs_asmClearErr s, ?_, ?_⟩,
    ⟨_, writeReg_error s d, fun k hk => getLsbD_clear _ d hk⟩,
    ⟨_, writeReg_irqStatus s d, fun k hk => getLsbD_clear _ d hk⟩, fun k hk => ?_, fun k hk => ?_,
    fun p c hc k hk => ?_⟩
  · rw [getLsbD_clear _ _ (by decide)]
    simp
  · rw [getLsbD_clear _ _ (by decide)]
    simp
  · simp [State.readReg, hk]
  · simp [State.readReg, hk]
  · rw [record_error, BitVec.getLsbD_or, getLsbD_errorBit hc hk]

/-- Settles O47: each read is a field, zero-extended or put side by side with another. -/
theorem registerReadValues : Obligations.RegisterReadValues := by
  intro s
  have hwide {w : ℕ} (x : BitVec w) (hw : w ≤ 32) : (x.zeroExtend 32).toNat = x.toNat :=
    BitVec.toNat_setWidth_of_le hw
  refine ⟨⟨rfl, fun hp => ⟨readReg_caps0 hp, readReg_caps1 hp, readReg_caps2 hp⟩, readReg_cmdqLevel⟩,
    ⟨hwide _ (by decide), hwide _ (by decide), hwide _ (by decide),
      hwide _ (by decide), hwide _ (by decide), hwide _ (by decide)⟩,
    readReg_frameCount s, ⟨rfl, rfl, hwide _ (by decide), hwide _ (by decide)⟩,
    ⟨rfl, rfl, rfl, rfl⟩, ⟨hwide _ (by decide), hwide _ (by decide)⟩, ⟨rfl, rfl⟩,
    fun n v hv => ?_, fun k w => readReg_outbuf⟩
  simp only [readReg_voice hv]
  refine ⟨?_, readVoiceReg_noteVel v, rfl, rfl, hwide _ (by decide)⟩
  cases hs : v.stage <;> simp only [readVoiceReg, hs] <;> rfl

end Sys2Proof.Laws
end

section
/-! PROOFS. The register map (20_memory.md R53), the accesses the bus admits and what they do (R55 to R57), and the
write that runs an instruction (R60). -/

open Sys2Proof Sys2Proof.Machine

namespace Sys2Proof.Machine

/-! ### The register map -/

theorem regAt_fixed (p : Params) {off : ℕ} (h : off < 0x0080) : regAt p off = fixedRegs.lookup off := if_pos h

theorem fixedRegs_offset {off : ℕ} {r : Reg} (hoff : off < 0x0080) (h : fixedRegs.lookup off = some r) :
    off % 4 = 0 ∧ off ≠ 0x004C ∧ off < 0x006C := by
  have hrows : ∀ o < 0x0080, (fixedRegs.lookup o).isSome → o % 4 = 0 ∧ o ≠ 0x004C ∧ o < 0x006C := by decide
  exact hrows off hoff (by rw [h]; rfl)

theorem voiceRegs_offset {o : ℕ} {f : VoiceReg} (ho : o < 0x20) (h : voiceRegs.lookup o = some f) :
    o % 4 = 0 ∧ o < 0x14 := by
  have hrows : ∀ o < 0x20, (voiceRegs.lookup o).isSome → o % 4 = 0 ∧ o < 0x14 := by decide
  exact hrows o ho (by rw [h]; rfl)

/-- The window of an existing slot; R7's bound on P keeps it below 0x3000 (10_state.md R48). -/
theorem regAt_voiceWindow {p : Params} (hp : p.Legal) {v o : ℕ} (hv : v < p.numVoices) (ho : o < 0x20) :
    regAt p (0x1000 + 0x20 * v + o) = (voiceRegs.lookup o).map (Reg.voice v) := by
  obtain ⟨⟨-, hP⟩, -⟩ := hp
  have hslot : (0x1000 + 0x20 * v + o - 0x1000) / 0x20 = v := by omega
  have hfield : (0x1000 + 0x20 * v + o - 0x1000) % 0x20 = o := by omega
  rw [regAt, if_neg (by omega), if_neg (by omega), if_neg (by omega), if_pos (by omega), hslot, hfield, if_pos hv]

theorem regAt_outbuf {p : Params} {k : ℕ} (hk : k < p.outbufFrames) :
    regAt p (0x4000 + 4 * k) = some (.outbuf k) := by
  have hentry : (0x4000 + 4 * k - 0x4000) / 4 = k := by omega
  rw [regAt, if_neg (by omega), if_neg (by omega), if_neg (by omega), if_neg (by omega), if_neg (by omega), hentry,
    if_pos ⟨by omega, hk⟩]

/-- Where a register stands: in a fixed row, the ACTIVE_MASK row, an existing slot's window or the output buffer. -/
theorem regAt_cases {p : Params} {off : ℕ} {r : Reg} (h : regAt p off = some r) :
    (off < 0x0080 ∧ fixedRegs.lookup off = some r) ∨
    (∃ j < 8, off = 0x0080 + 4 * j ∧ r = .activeMask j) ∨
    (∃ v < p.numVoices, ∃ o < 0x20, ∃ f, off = 0x1000 + 0x20 * v + o ∧ off < 0x3000 ∧
      voiceRegs.lookup o = some f ∧ r = .voice v f) ∨
    (∃ k < p.outbufFrames, off = 0x4000 + 4 * k ∧ r = .outbuf k) := by
  unfold regAt at h
  split_ifs at h with hfixed hmask haligned hgap hwindow hslot htop hentry
  · exact .inl ⟨hfixed, h⟩
  · cases h
    exact .inr (.inl ⟨(off - 0x0080) / 4, by omega, by omega, rfl⟩)
  · obtain ⟨f, hf, rfl⟩ := Option.map_eq_some_iff.1 h
    exact .inr (.inr (.inl ⟨_, hslot, (off - 0x1000) % 0x20, by omega, f, by omega, hwindow, hf, rfl⟩))
  · cases h
    exact .inr (.inr (.inr ⟨_, hentry.2, by omega, rfl⟩))

/-- Only multiples of 4 are mapped. -/
theorem regAt_unaligned (p : Params) {off : ℕ} (h : off % 4 ≠ 0) : regAt p off = none := by
  refine Option.eq_none_iff_forall_ne_some.2 fun r hr => ?_
  rcases regAt_cases hr with ⟨hoff, hrow⟩ | ⟨j, -, rfl, -⟩ | ⟨v, -, o, ho, f, rfl, -, hf, -⟩ | ⟨k, -, rfl, -⟩
  · exact h (fixedRegs_offset hoff hrow).1
  · omega
  · have := (voiceRegs_offset ho hf).1
    omega
  · omega

/-- The unmapped ranges of 20_memory.md R53. -/
theorem regAt_unmapped {p : Params} {off : ℕ}
    (h : off = 0x004C ∨ (0x006C ≤ off ∧ off ≤ 0x007C) ∨ (0x00A0 ≤ off ∧ off < 0x1000) ∨
      (0x1000 + 0x20 * p.numVoices ≤ off ∧ off < 0x4000) ∨ 0x4000 + 4 * p.outbufFrames ≤ off) :
    regAt p off = none := by
  refine Option.eq_none_iff_forall_ne_some.2 fun r hr => ?_
  rcases regAt_cases hr with ⟨hoff, hrow⟩ | ⟨j, hj, rfl, -⟩ | ⟨v, hv, o, ho, f, rfl, htop, -⟩ | ⟨k, hk, rfl, -⟩
  · have := fixedRegs_offset hoff hrow
    omega
  all_goals omega

/-! ### Admission -/

theorem accessReg_error_iff (p : Params) (off : Offset) (size : AccessSize) (lanes : BitVec 4) :
    (∃ c, accessReg p off size lanes = .error c) ↔
      off.toNat % 4 ≠ 0 ∨ size ≠ .bits32 ∨ lanes ≠ 0xF ∨ regAt p off.toNat = none := by
  have hok := accessReg_ok_iff p off size lanes
  cases hacc : accessReg p off size lanes with
  | ok r =>
    obtain ⟨haligned, hsize, hlanes, hreg⟩ := (hok r).1 hacc
    simp [haligned, hsize, hlanes, hreg]
  | error c =>
    refine iff_of_true ⟨c, rfl⟩ ?_
    by_contra! hadmitted
    obtain ⟨haligned, hsize, hlanes, hmapped⟩ := hadmitted
    obtain ⟨r, hreg⟩ := Option.ne_none_iff_exists'.1 hmapped
    cases hacc.symm.trans ((hok r).2 ⟨haligned, hsize, hlanes, hreg⟩)

/-! ### The step of an access -/

theorem readReg_inputs (s : State) (is : List Input) (r : Reg) :
    State.readReg { s with inputs := is } r = s.readReg r := by
  cases r <;> rfl

theorem writeEffect_next (r : Reg) (d : Word) (s : State) : ∃ t, writeEffect r d s = .next t := by
  rcases writeEffect_cases r d s with ⟨port, i, -, -, h⟩ | ⟨port, e, -, -, h⟩ | ⟨-, h⟩
  · rw [h]
    exact exec_next i s
  · exact ⟨_, h⟩
  · exact ⟨_, h⟩

section Access
variable {s : State} {off : Offset} {size : AccessSize} {d : Word} {rest : List Input} {r : Reg}

theorem step_read_admitted (h : s.inputs = .read off size :: rest)
    (hacc : accessReg s.params off size 0xF = .ok r) :
    step s = .next { s with inputs := rest, resp := .readOkay (s.readReg r) } := by
  simp only [step, stepState, h, stepInput, busRead, hacc, readReg_inputs]

/-- A write to a register whose write is no instruction (20_memory.md R57). -/
theorem step_regWrite (h : s.inputs = fullWrite off d :: rest) (ha : off.toNat % 4 = 0)
    (hr : regAt s.params off.toNat = some r) (hport : portOf r = none) :
    step s = .next (State.writeReg { s with inputs := rest, resp := .writeOkay } r d) := by
  rw [step_fullWrite h ha hr, writeEffect, hport]

end Access

/-- A read-only register is no instruction port, and a write to it has no effect (20_memory.md R57). -/
theorem writeReg_readOnly {r : Reg}
    (h : r ∉ [Reg.error, .irqStatus, .irqEnable, .cmdArg0, .cmdArg1, .cmdOp, .renderCtrl, .probePhase])
    (d : Word) (s : State) : portOf r = none ∧ s.writeReg r d = s := by
  constructor
  · unfold portOf
    split
    case h_4 => rfl
    all_goals simp at h
  · unfold State.writeReg
    split
    case h_6 => rfl
    all_goals simp at h

/-! ### Which steps fault -/

/-- The next input is a bus access with this offset, size and lanes; a read has every lane. -/
def TakesAccess (s : State) (off : Offset) (size : AccessSize) (lanes : BitVec 4) : Prop :=
  ∃ rest, (lanes = 0xF ∧ s.inputs = .read off size :: rest) ∨ ∃ d, s.inputs = .write off size lanes d :: rest

section TakesAccess
variable {s : State} {off : Offset} {size : AccessSize} {lanes : BitVec 4}

theorem TakesAccess.step_fault {c : BusErrorCause} (h : TakesAccess s off size lanes)
    (hacc : accessReg s.params off size lanes = .error c) : step s = .fault (.busError off c) := by
  obtain ⟨rest, ⟨rfl, hin⟩ | ⟨d, hin⟩⟩ := h
  · simp only [step, stepState, hin, stepInput, busRead, hacc]
  · simp only [step, stepState, hin, stepInput, busWrite, hacc]

theorem TakesAccess.step_next {r : Reg} (h : TakesAccess s off size lanes)
    (hacc : accessReg s.params off size lanes = .ok r) : ∃ t, step s = .next t := by
  obtain ⟨rest, ⟨rfl, hin⟩ | ⟨d, hin⟩⟩ := h
  · exact ⟨_, step_read_admitted hin hacc⟩
  · obtain ⟨haligned, rfl, rfl, hreg⟩ := (accessReg_ok_iff _ _ _ _ _).1 hacc
    rw [step_fullWrite hin haligned hreg]
    exact writeEffect_next r d _

end TakesAccess

/-- A step that is no bus access, the engine's turn or reset, answers a next state. -/
theorem takesAccess_or_step_next (s : State) :
    (∃ off size lanes, TakesAccess s off size lanes) ∨ ∃ t, step s = .next t := by
  cases hin : s.inputs with
  | nil => exact .inr ⟨frameStep s, by simp only [step, stepState, hin]⟩
  | cons i rest =>
    cases i with
    | read off size => exact .inl ⟨off, size, 0xF, rest, .inl ⟨rfl, hin⟩⟩
    | write off size lanes d => exact .inl ⟨off, size, lanes, rest, .inr ⟨d, hin⟩⟩
    | frame => exact .inr ⟨frameStep { s with inputs := rest }, by simp only [step, stepState, hin, stepInput]⟩
    | reset => exact .inr ⟨resetStep { s with inputs := rest }, by simp only [step, stepState, hin, stepInput]⟩

theorem step_next_or_fault (s : State) :
    (∃ t, step s = .next t) ∨
      ∃ f, step s = .fault f ∧
        ∃ off size lanes c, TakesAccess s off size lanes ∧ accessReg s.params off size lanes = .error c := by
  rcases takesAccess_or_step_next s with ⟨off, size, lanes, h⟩ | hnext
  · cases hacc : accessReg s.params off size lanes with
    | ok r => exact .inl (h.step_next hacc)
    | error c => exact .inr ⟨_, h.step_fault hacc, off, size, lanes, c, h, hacc⟩
  · exact .inl hnext

/-- A step faults exactly on an access the bus does not admit (20_memory.md R55, R56). -/
theorem step_fault_iff (s : State) :
    (∃ f, step s = .fault f) ↔
      ∃ off size lanes, TakesAccess s off size lanes ∧
        (off.toNat % 4 ≠ 0 ∨ size ≠ .bits32 ∨ lanes ≠ 0xF ∨ regAt s.params off.toNat = none) := by
  simp only [← accessReg_error_iff]
  constructor
  · rintro ⟨f, hf⟩
    rcases step_next_or_fault s with ⟨t, ht⟩ | ⟨-, -, off, size, lanes, c, h, hacc⟩
    · cases hf.symm.trans ht
    · exact ⟨off, size, lanes, h, c, hacc⟩
  · rintro ⟨off, size, lanes, h, c, hacc⟩
    exact ⟨_, h.step_fault hacc⟩

end Sys2Proof.Machine

namespace Sys2Proof.Laws

/-- Settles O45: each row is a branch of the map, and the unmapped offsets lie in none of its four regions. -/
theorem registerMapWindows : Obligations.RegisterMapWindows := by
  intro p hp
  refine ⟨?_, fun j hj => regAt_activeMask p hj, fun off h => regAt_unaligned p h, fun v hv => ?_,
    fun k hk => regAt_outbuf hk, fun off h => regAt_unmapped h⟩
  · repeat' apply And.intro
    all_goals exact regAt_fixed p (by decide)
  · refine ⟨regAt_voiceWindow hp hv (o := 0x00) (by decide), regAt_voiceWindow hp hv (by decide),
      regAt_voiceWindow hp hv (by decide), regAt_voiceWindow hp hv (by decide),
      regAt_voiceWindow hp hv (by decide), fun o hlow ho => ?_⟩
    have hrow : voiceRegs.lookup o = none :=
      Option.eq_none_iff_forall_ne_some.2 fun f hf => absurd (voiceRegs_offset ho hf).2 (by omega)
    rw [regAt_voiceWindow hp hv ho, hrow]
    rfl

/-- Settles O46: an admitted read answers `readReg`, and a write that is no instruction is `writeReg`. -/
theorem registerAccesses : Obligations.RegisterAccesses := by
  intro s off r d rest ha hr
  refine ⟨fun h => ⟨?_, ?_⟩, fun h => ?_⟩
  · exact step_read_admitted h ((accessReg_ok_iff _ _ _ _ _).2 ⟨ha, rfl, rfl, hr⟩)
  · rintro (rfl | rfl) <;> rfl
  · have hwrite := step_regWrite h ha hr
    refine ⟨?_, ?_, ?_, ?_, ?_, fun hro => ?_⟩
    case refine_6 =>
      obtain ⟨hport, hsame⟩ := writeReg_readOnly hro d { s with inputs := rest, resp := .writeOkay }
      rw [hwrite hport, hsame]
    all_goals
      rintro rfl
      exact hwrite rfl

/-- Settles O48: an access without a register faults, every other step answers a next state. -/
theorem stepFaultsExactlyOnUnadmittedAccess : Obligations.StepFaultsExactlyOnUnadmittedAccess := by
  intro s
  have houtcome := step_next_or_fault s
  refine ⟨(step_fault_iff s).trans ⟨?_, ?_⟩, ?_, houtcome.imp_right fun ⟨f, hf, _⟩ => ⟨f, hf⟩⟩
  · rintro ⟨off, size, lanes, ⟨rest, haccess⟩, hcause⟩
    refine ⟨rest, off, size, ?_⟩
    grind
  · rintro ⟨rest, off, size, hcause⟩
    have hread (hin : s.inputs = .read off size :: rest) : TakesAccess s off size 0xF := ⟨rest, .inl ⟨rfl, hin⟩⟩
    have hwrite {lanes d} (hin : s.inputs = .write off size lanes d :: rest) : TakesAccess s off size lanes :=
      ⟨rest, .inr ⟨d, hin⟩⟩
    grind
  · rintro ⟨q, hq⟩
    rcases houtcome with ⟨t, ht⟩ | ⟨f, hf, -⟩
    · cases hq.symm.trans ht
    · cases hq.symm.trans hf

/-- Settles O5: the write is admitted at its port, and issuing it runs what it decodes to. -/
theorem stepRunsDecodedInstruction : Obligations.StepRunsDecodedInstruction := by
  intro s port d rest i hin hdec
  rw [step_portWrite hin]
  simp only [issue, hdec]

end Sys2Proof.Laws
end

section
/-! PROOFS. The encoding (30_encoding.md R66 to R71): the fields of a packed word, the decoder and the encoder as
inverses of each other on words and on bytes, and the words the decoder refuses. -/

open Sys2Proof Sys2Proof.Machine

namespace Sys2Proof.Machine

/-! ### Bytes and fields of a word -/

/-- A word is the concatenation of its byte lanes (20_memory.md R54). -/
theorem wordOfLanes_extract (w : Word) :
    wordOfLanes (w.extractLsb' 0 8) (w.extractLsb' 8 8) (w.extractLsb' 16 8) (w.extractLsb' 24 8) = w := by
  unfold wordOfLanes
  rw [BitVec.extractLsb'_append_extractLsb'_eq_extractLsb' (show 24 = 16 + 8 from rfl),
    BitVec.extractLsb'_append_extractLsb'_eq_extractLsb' (show 16 = 8 + 8 from rfl),
    BitVec.extractLsb'_append_extractLsb'_eq_extractLsb' (show 8 = 0 + 8 from rfl)]
  exact BitVec.extractLsb'_eq_self

section PackOp
variable (opcode slot vel : Byte)

@[simp] theorem opOpcode_packOp : opOpcode (packOp opcode slot vel) = opcode :=
  BitVec.extractLsb'_append_eq_right

@[simp] theorem opSlot_packOp : opSlot (packOp opcode slot vel) = slot := by
  rw [opSlot, packOp, BitVec.extractLsb'_append_eq_of_le (by decide), BitVec.extractLsb'_append_eq_right]

@[simp] theorem opVel_packOp : opVel (packOp opcode slot vel) = vel := by
  rw [opVel, packOp, BitVec.extractLsb'_append_eq_of_le (by decide), BitVec.extractLsb'_append_eq_of_le (by decide),
    BitVec.extractLsb'_append_eq_right]

@[simp] theorem opReserved_packOp : opReserved (packOp opcode slot vel) = 0 := by
  rw [opReserved, packOp, BitVec.extractLsb'_append_eq_of_le (by decide),
    BitVec.extractLsb'_append_eq_of_le (by decide),
    BitVec.extractLsb'_append_eq_of_le (by decide)]
  exact BitVec.extractLsb'_eq_self

end PackOp

/-- An OP word with reserved byte 0 is the packing of its own fields (30_encoding.md R66, R73). -/
theorem packOp_fields {op : Word} (h : opReserved op = 0) :
    packOp (opOpcode op) (opSlot op) (opVel op) = op := by
  rw [packOp, ← h]
  exact wordOfLanes_extract op

/-- Bits 23 to 8 of an OP word are VEL above SLOT (30_encoding.md R66). -/
theorem opSlotVel_eq_zero_iff (op : Word) : op.extractLsb' 8 16 = 0 ↔ opVel op = 0 ∧ opSlot op = 0 := by
  have hfields : opVel op ++ opSlot op = op.extractLsb' 8 16 :=
    BitVec.extractLsb'_append_extractLsb'_eq_extractLsb' (show 16 = 8 + 8 from rfl)
  rw [← hfields]
  constructor
  · intro h
    have hvel := congrArg (BitVec.extractLsb' 8 8) h
    have hslot := congrArg (BitVec.extractLsb' 0 8) h
    rw [BitVec.extractLsb'_append_eq_left] at hvel
    rw [BitVec.extractLsb'_append_eq_right] at hslot
    exact ⟨hvel, hslot⟩
  · rintro ⟨hvel, hslot⟩
    rw [hvel, hslot]
    rfl

section ZeroExtend
variable {n m : ℕ}

@[simp] theorem extract_zeroExtend_low (a : BitVec n) (hn : n ≤ 32) : (a.zeroExtend 32).extractLsb' 0 n = a := by
  rw [BitVec.extractLsb'_setWidth_of_le (by omega), BitVec.extractLsb'_eq_self]

@[simp] theorem extract_zeroExtend_high (a : BitVec n) : (a.zeroExtend 32).extractLsb' n m = 0 := by
  ext k hk
  simp

/-- A word whose bits above the low field are 0 is the zero extension of that field. -/
theorem zeroExtend_extract_low {w : Word} (hnm : n + m = 32) (h : w.extractLsb' n m = 0) :
    (w.extractLsb' 0 n).zeroExtend 32 = w := by
  ext k hk
  by_cases hkn : k < n
  · simp [hkn, BitVec.getLsbD_eq_getElem hk]
  · have hhigh := congrArg (·.getLsbD (k - n)) h
    have hkm : k - n < m := by omega
    have hnk : n + (k - n) = k := by omega
    simp only [BitVec.getLsbD_extractLsb', hkm, hnk, decide_true, Bool.true_and] at hhigh
    simp [hkn, ← BitVec.getLsbD_eq_getElem, hhigh]

end ZeroExtend

/-! ### Decoding an encoded instruction -/

/-- The op or data word and the used argument words of a write are those of an instruction's encoding. -/
def IsEncodingOf (i : Instr) (op a0 a1 : Word) : Prop :=
  (encode i).1 = op ∧ (usesA0 i = true → (encode i).2.1 = a0) ∧ (usesA1 i = true → (encode i).2.2 = a1)

theorem isEncodingOf_encode (i : Instr) : IsEncodingOf i (encode i).1 (encode i).2.1 (encode i).2.2 :=
  ⟨rfl, fun _ => rfl, fun _ => rfl⟩

/-- The decoder reads an instruction back from its encoding, whatever the ignored argument words are
(30_encoding.md R66, R67). -/
theorem decode_of_isEncodingOf {i : Instr} {op a0 a1 : Word} (h : IsEncodingOf i op a0 a1) :
    decode i.port op a0 a1 = .ok i := by
  obtain ⟨rfl, h0, h1⟩ := h
  cases i
  case nop | resetAll | probe => rfl
  case configure =>
    cases h0 rfl
    simp [Instr.port, encode, decode, decodeCommand, requireZero]
  case wrsample | activate | setEnv =>
    cases h0 rfl
    cases h1 rfl
    simp [Instr.port, encode, decode, decodeCommand, requireZero]
  case release | silence => simp [Instr.port, encode, decode, decodeCommand, requireZero]
  case render => simp [Instr.port, encode, decode, decodeRender, requireZero]

/-- The bytes of three words, or of a trigger's data word, decode as the words do. -/
theorem decodeBytes_lanes (op a0 a1 : Word) :
    decodeBytes .cmdOp (lanesOfWord op ++ lanesOfWord a0 ++ lanesOfWord a1) = ofWords (decode .cmdOp op a0 a1) ∧
      decodeBytes .renderCtrl (lanesOfWord op) = ofWords (decode .renderCtrl op a0 a1) ∧
      decodeBytes .probePhase (lanesOfWord op) = ofWords (decode .probePhase op a0 a1) := by
  simp only [lanesOfWord, List.cons_append, List.nil_append, decodeBytes, wordOfLanes_extract, decode, and_self]

/-- Decoding the bytes of an instruction is decoding its words. -/
theorem decodeBytes_encodeBytes (i : Instr) :
    decodeBytes i.port (encodeBytes i) = ofWords (decode i.port (encode i).1 (encode i).2.1 (encode i).2.2) := by
  obtain ⟨hcmd, hrender, hprobe⟩ := decodeBytes_lanes (encode i).1 (encode i).2.1 (encode i).2.2
  unfold encodeBytes
  cases i.port with
  | cmdOp => exact hcmd
  | renderCtrl => exact hrender
  | probePhase => exact hprobe

/-! ### Encoding a decoded instruction -/

/-- An OP word of a known opcode with reserved byte 0 is packed from that opcode, its SLOT and its VEL. -/
theorem packOp_eq {op : Word} {opcode slot vel : Byte} (hop : (opOpcode op).toNat = opcode.toNat)
    (htop : opReserved op = 0) (hslot : opSlot op = slot) (hvel : opVel op = vel) :
    packOp opcode slot vel = op := by
  rw [← BitVec.eq_of_toNat_eq hop, ← hslot, ← hvel, packOp_fields htop]

/-- The words of a decoded command are its encoding: per opcode, the zero test gives back each must-be-0 field of the
format (30_encoding.md R67). -/
theorem isEncodingOf_of_decodeCommand {op a0 a1 : Word} {i : Instr} (h : decodeCommand op a0 a1 = .ok i) :
    IsEncodingOf i op a0 a1 := by
  simp only [decodeCommand] at h
  split at h
  case h_9 => cases h
  all_goals
    rename_i hop
    obtain ⟨hz, rfl⟩ := requireZero_eq_ok.1 h
    simp only [Bool.and_eq_true, beq_iff_eq, and_assoc] at hz
  case h_4 =>
    obtain ⟨htop, hnote⟩ := hz
    exact ⟨packOp_eq hop htop rfl rfl, fun _ => zeroExtend_extract_low rfl hnote, fun _ => rfl⟩
  case h_5 | h_6 =>
    obtain ⟨htop, hvel⟩ := hz
    exact ⟨packOp_eq hop htop rfl hvel, nofun, nofun⟩
  case h_8 =>
    obtain ⟨htop, hvel, hslot, hattack, hrelease⟩ := hz
    exact ⟨packOp_eq hop htop hslot hvel, fun _ => zeroExtend_extract_low rfl hattack,
      fun _ => zeroExtend_extract_low rfl hrelease⟩
  all_goals
    obtain ⟨htop, hvel, hslot⟩ := hz
    refine ⟨packOp_eq hop htop hslot hvel, ?_⟩
  case h_2 => exact ⟨fun _ => rfl, nofun⟩
  case h_3 => exact ⟨fun _ => rfl, fun _ => rfl⟩
  case h_1 | h_7 => exact ⟨nofun, nofun⟩

theorem isEncodingOf_of_decode {port : Port} {op a0 a1 : Word} {i : Instr} (h : decode port op a0 a1 = .ok i) :
    IsEncodingOf i op a0 a1 := by
  cases port with
  | cmdOp => exact isEncodingOf_of_decodeCommand h
  | renderCtrl =>
    obtain ⟨hz, rfl⟩ := decodeRender_eq_ok h
    exact ⟨zeroExtend_extract_low rfl hz, nofun, nofun⟩
  | probePhase =>
    cases h
    exact ⟨rfl, nofun, nofun⟩

/-- The decoder accepts exactly the encodings of its port's instructions. -/
theorem decode_eq_ok_iff {port : Port} {op a0 a1 : Word} {i : Instr} :
    decode port op a0 a1 = .ok i ↔ i.port = port ∧ IsEncodingOf i op a0 a1 := by
  refine ⟨fun h => ⟨port_of_decode h, isEncodingOf_of_decode h⟩, ?_⟩
  rintro ⟨rfl, henc⟩
  exact decode_of_isEncodingOf henc

/-! ### Refused words -/

theorem requireZero_eq_error {b : Bool} {i : Instr} {e : WordError} :
    requireZero b i = .error e ↔ ¬ b = true ∧ e = .reservedField := by
  cases b <;> simp [requireZero, eq_comm]

/-- The first check: the opcode alone decides ILLEGAL_OPCODE (30_encoding.md R70 (a)). -/
theorem decodeCommand_illegalOpcode_iff (op a0 a1 : Word) :
    decodeCommand op a0 a1 = .error .illegalOpcode ↔ 7 < (opOpcode op).toNat := by
  simp only [decodeCommand]
  split
  case h_9 => exact iff_of_true rfl (by grind)
  all_goals exact iff_of_false (fun h => nomatch (requireZero_eq_error.1 h).2) (by omega)

/-- The second check: each format's must-be-0 fields (30_encoding.md R67, R70 (b)). -/
theorem decodeCommand_reservedField_iff (op a0 a1 : Word) :
    decodeCommand op a0 a1 = .error .reservedField ↔
      (opOpcode op).toNat ≤ 7 ∧
        (opReserved op ≠ 0 ∨
          ((opOpcode op).toNat ∈ [0, 1, 2, 6, 7] ∧ op.extractLsb' 8 16 ≠ 0) ∨
          ((opOpcode op).toNat ∈ [4, 5] ∧ opVel op ≠ 0) ∨
          ((opOpcode op).toNat = 3 ∧ a0.extractLsb' 16 16 ≠ 0) ∨
          ((opOpcode op).toNat = 7 ∧ (a0.extractLsb' 25 7 ≠ 0 ∨ a1.extractLsb' 25 7 ≠ 0))) := by
  simp only [decodeCommand, ne_eq, opSlotVel_eq_zero_iff]
  split
  case h_9 => exact iff_of_false nofun (by grind)
  all_goals
    rename_i hop
    simp [hop, requireZero_eq_error, -not_and, not_and_or, or_assoc]

theorem decodeRender_error_iff (d : Word) : (∃ e, decodeRender d = .error e) ↔ d.extractLsb' 16 16 ≠ 0 := by
  simp [decodeRender, requireZero_eq_error]

end Sys2Proof.Machine

namespace Sys2Proof.Laws

/-- Settles O1: the words are the instruction's encoding, which decodes to it, and the bytes decode as the words do. -/
theorem decodeEncodeRoundTrip : Obligations.DecodeEncodeRoundTrip := by
  intro i
  have hwords := decode_eq_ok_iff.2 ⟨rfl, isEncodingOf_encode i⟩
  exact ⟨hwords, by rw [decodeBytes_encodeBytes, hwords]; rfl⟩

/-- Settles O2: a decoded instruction is one of the port's own, and the accepted words are its encoding. -/
theorem decodedWordsAreTheEncoding : Obligations.DecodedWordsAreTheEncoding :=
  fun _ _ _ _ _ => decode_eq_ok_iff.1

/-- Settles O3: the opcode is checked first, then the must-be-0 fields of its format. -/
theorem illegalAndReservedWordsRefused : Obligations.IllegalAndReservedWordsRefused :=
  fun op a0 a1 => ⟨decodeCommand_illegalOpcode_iff op a0 a1, decodeCommand_reservedField_iff op a0 a1,
    decodeRender_error_iff op, .probe op, rfl⟩

/-- Settles O4, by running the decoder on the five writes. -/
theorem knownWordsDecode : Obligations.KnownWordsDecode := ⟨rfl, rfl, rfl, rfl, rfl⟩

end Sys2Proof.Laws
end

section
/-! PROOFS. The waveform table (40_table.md R75 to R79): the lookup datapath over rationals and its finite range, the
pushes of CONFIGURE and WRSAMPLE, PROBE, and the commands a block start applies to the table and the bank. -/

open Sys2Proof Sys2Proof.Machine

namespace Sys2Proof.Machine

/-! ### The lookup and its two neighbours -/

theorem lookup_empty {s : State} (h : s.tableSize = 0) (p : Word) : s.lookup p = .finite 0 := by
  simp [State.lookup, h]

theorem lookup_nonempty {s : State} (h : s.tableSize ≠ 0) (p : Word) :
    s.lookup p =
      interpolate (s.mem.readTable (lookupIndex s.tableSize.toNat p))
        (s.mem.readTable ((lookupIndex s.tableSize.toNat p + 1) % s.tableSize.toNat))
        (lookupFrac s.tableSize.toNat p) := by
  have hN : s.tableSize.toNat ≠ 0 := BitVec.toNat_ne.1 h
  simp only [State.lookup, if_neg hN]

/-- The lower neighbour is a word of the table, whatever the phase. -/
theorem lookupIndex_lt {N : ℕ} (hN : N ≠ 0) (p : Word) : lookupIndex N p < N := by
  refine Nat.div_lt_of_lt_mul ?_
  gcongr
  exact p.isLt

theorem lookupFrac_lt (N : ℕ) (p : Word) : lookupFrac N p < 2 ^ 32 := Nat.mod_lt _ (by positivity)

/-- The product `p * N` splits into the index and the weight. -/
theorem lookup_position {N i f : ℕ} {p : Word} (h : p.toNat * N = i * 2 ^ 32 + f) (hf : f < 2 ^ 32) :
    lookupIndex N p = i ∧ lookupFrac N p = f := by
  unfold lookupIndex lookupFrac
  omega

/-! ### Interpolation over rationals -/

/-- The point at `f` between the values of two words. -/
def between (w0 w1 : Word) (f : ℚ) : ℚ := (1 - f) * Spec.f32val w0 + f * Spec.f32val w1

/-- The integer quotient `interpolate` rounds is the exact interpolation. -/
theorem interpolation_quotient {w0 w1 : Word} (h0 : isFinite w0 = true) (h1 : isFinite w1 = true) (fr : ℕ) :
    (((2 ^ 32 - (fr : ℤ)) * f32units w0 + (fr : ℤ) * f32units w1 : ℤ) : ℚ) / ((2 ^ 32 * f32one : ℕ) : ℚ) =
      between w0 w1 (fr / 2 ^ 32) := by
  have hone : (f32one : ℚ) ≠ 0 := by exact_mod_cast f32one_pos.ne'
  rw [between, ← f32units_div_f32one h0, ← f32units_div_f32one h1]
  push_cast
  field_simp
  ring

theorem interpolate_finite {w0 w1 : Word} (h0 : isFinite w0 = true) (h1 : isFinite w1 = true) (fr : ℕ) :
    interpolate w0 w1 fr = .finite (Spec.rne32 (between w0 w1 (fr / 2 ^ 32))) := by
  have hd : 0 < 2 ^ 32 * f32one := Nat.mul_pos (by positivity) f32one_pos
  rw [interpolate, h0, h1, Bool.and_self, if_pos rfl, rne32_eq_spec _ hd, interpolation_quotient h0 h1]

theorem interpolate_nonfinite {w0 w1 : Word} (h : ¬ (isFinite w0 = true ∧ isFinite w1 = true)) (fr : ℕ) :
    interpolate w0 w1 fr = .nonfinite := by
  rw [interpolate, if_neg (by simpa using h)]

/-- A lookup at a phase whose position in the table is known, between finite neighbours. -/
theorem lookup_between {s : State} {p : Word} {i f : ℕ} (hN : s.tableSize ≠ 0)
    (h : p.toNat * s.tableSize.toNat = i * 2 ^ 32 + f) (hf : f < 2 ^ 32)
    (h0 : isFinite (s.mem.readTable i) = true)
    (h1 : isFinite (s.mem.readTable ((i + 1) % s.tableSize.toNat)) = true) :
    s.lookup p = .finite (Spec.rne32
      (between (s.mem.readTable i) (s.mem.readTable ((i + 1) % s.tableSize.toNat)) (f / 2 ^ 32))) := by
  obtain ⟨hindex, hfrac⟩ := lookup_position h hf
  rw [lookup_nonempty hN, hindex, hfrac, interpolate_finite h0 h1]

/-- RNE32 gives a finite word back from its value, -0.0 becoming +0.0. -/
theorem specRne32_f32val {w : Word} (h : isFinite w = true) :
    Spec.rne32 (Spec.f32val w) = if w = 0x80000000 then 0x00000000 else w := by
  rw [← f32units_div_f32one h, ← rne32_eq_spec _ f32one_pos]
  exact Laws.roundingFixesFiniteWords w h

/-! ### The finite range -/

/-- The largest finite binary32 value. -/
def maxFinite : ℚ := (2 ^ 24 - 1) * 2 ^ 104

theorem abs_f32val_le {w : Word} (h : isFinite w = true) : |Spec.f32val w| ≤ maxFinite := by
  have hsig : (significand w : ℚ) ≤ 2 ^ 24 - 1 := by
    have hlt : (significand w : ℚ) + 1 ≤ 2 ^ 24 := by exact_mod_cast significand_lt w
    linarith
  have hbin : binade w - 23 ≤ (104 : ℕ) := by
    have := (isFinite_iff w).1 h
    have := expField_lt w
    unfold binade
    omega
  have habs : |Spec.f32val w| = significand w * 2 ^ (binade w - 23) := by
    have hpos : (0 : ℚ) ≤ significand w * 2 ^ (binade w - 23) := by positivity
    rw [f32val_eq]
    split <;> simp [abs_of_nonneg hpos]
  calc |Spec.f32val w| = significand w * 2 ^ (binade w - 23) := habs
    _ ≤ (2 ^ 24 - 1) * 2 ^ ((104 : ℕ) : ℤ) := by gcongr; norm_num
    _ = maxFinite := by rw [zpow_natCast, maxFinite]

/-- An interpolation lies between its neighbours, so it does not leave the finite range. -/
theorem abs_between_le {w0 w1 : Word} {f : ℚ} (h0 : isFinite w0 = true) (h1 : isFinite w1 = true) (hf : 0 ≤ f)
    (hf' : f ≤ 1) : |between w0 w1 f| ≤ maxFinite :=
  abs_le.2 (convex_Icc (-maxFinite) maxFinite (abs_le.1 (abs_f32val_le h0)) (abs_le.1 (abs_f32val_le h1))
    (sub_nonneg.2 hf') hf (sub_add_cancel 1 f))

/-- Rounding does not pass an integer. -/
theorem specRoundHalfEven_le {y : ℚ} {m : ℤ} (h : y ≤ m) : Spec.roundHalfEven y ≤ m := by
  rcases (Int.floor_le_iff.2 (by linarith : y < m + 1)).lt_or_eq with hlt | heq
  · unfold Spec.roundHalfEven
    split_ifs <;> omega
  · have hfrac : y - ⌊y⌋ < 1 / 2 := by rw [heq]; linarith
    rw [Spec.roundHalfEven, if_pos hfrac, heq]

theorem roundScaled_le {a d m : ℕ} {k : ℤ} (hd : 0 < d) (h : (a : ℚ) / d ≤ m * 2 ^ k) : roundScaled a d k ≤ m := by
  have hle : (a : ℚ) / d / 2 ^ k ≤ (m : ℤ) := by rwa [div_le_iff₀ (by positivity), Int.cast_natCast]
  exact_mod_cast (roundScaled_cast a hd k).trans_le (specRoundHalfEven_le hle)

theorem expField_packF32 (s : Bool) {e : ℕ} (m : ℕ) (he : e < 2 ^ 8) : expField (packF32 s e m) = e := by
  rw [expField, packF32, BitVec.extractLsb'_append_eq_of_le (by decide), BitVec.extractLsb'_append_eq_right,
    toNat_ofNat_of_lt he]

/-- Packing gives an infinity above binade 127 only. -/
theorem isFinite_packRounded (s : Bool) {e : ℤ} (M : ℕ) (hlow : -126 ≤ e) (hhigh : e ≤ 127) :
    isFinite (packRounded s e M) = true := by
  rw [isFinite_iff, packRounded, if_neg (by omega : ¬ 127 < e)]
  split_ifs
  · decide
  · rw [expField_packF32 _ _ (by omega)]
    omega
  · rw [expField_packF32 _ _ (by omega)]
    omega

/-- Rounding a value within the finite range does not overflow: below binade 127 a carry still fits, and in binade
127 there is none. -/
theorem isFinite_rne32 {n : ℤ} {d : ℕ} (hd : 0 < d) (h : |(n : ℚ) / d| ≤ maxFinite) :
    isFinite (rne32 n d) = true := by
  by_cases hn : n = 0
  · rw [rne32, if_pos hn]
    rfl
  have habs : |(n : ℚ) / d| = (n.natAbs : ℚ) / d := by
    rw [abs_div, Nat.abs_cast, Nat.cast_natAbs, Int.cast_abs]
  have ha := Int.natAbs_pos.mpr hn
  have hpos : (0 : ℚ) < (n.natAbs : ℚ) / d := by positivity
  rw [habs] at h
  have hbin : floorLog2 n.natAbs d < 128 := by
    rw [floorLog2_eq_log ha hd, ← Int.lt_zpow_iff_log_lt one_lt_two hpos]
    exact h.trans_lt (by norm_num [maxFinite])
  simp only [rne32, if_neg hn]
  split
  next hcarry =>
    have hne : max (floorLog2 n.natAbs d) (-126) ≠ 127 := by
      intro htop
      rw [htop] at hcarry
      have hle : roundScaled n.natAbs d (127 - 23) ≤ 2 ^ 24 - 1 :=
        roundScaled_le hd (h.trans (by norm_num [maxFinite]))
      omega
    exact isFinite_packRounded _ _ (by omega) (by omega)
  next => exact isFinite_packRounded _ _ (by omega) (by omega)

theorem isFinite_specRne32 {x : ℚ} (h : |x| ≤ maxFinite) : isFinite (Spec.rne32 x) = true := by
  rw [← Rat.num_div_den x] at h ⊢
  rw [← rne32_eq_spec _ x.den_pos]
  exact isFinite_rne32 x.den_pos h

theorem isFinite_of_interpolate {w0 w1 w : Word} {fr : ℕ} (hfr : fr < 2 ^ 32)
    (h : interpolate w0 w1 fr = .finite w) : isFinite w = true := by
  by_cases hfin : isFinite w0 = true ∧ isFinite w1 = true
  · obtain ⟨h0, h1⟩ := hfin
    rw [interpolate_finite h0 h1] at h
    cases h
    have hle : (fr : ℚ) ≤ 2 ^ 32 := by exact_mod_cast hfr.le
    exact isFinite_specRne32 (abs_between_le h0 h1 (by positivity) ((div_le_one (by positivity)).2 hle))
  · rw [interpolate_nonfinite hfin] at h
    cases h

/-! ### Running PROBE and the table commands -/

theorem exec_probe (p : Word) (s : State) : exec (.probe p) s = .next (Spec.probePhaseWrite p s) := by
  simp only [exec, execProbe, Spec.probePhaseWrite]
  split <;> rfl

section Push
variable {s : State} (hroom : s.queue.length ≠ s.params.cmdqDepth)
include hroom

theorem exec_configure {n : Word} (h0 : n ≠ 0) (hmax : n.toNat ≤ s.params.tableMax) :
    exec (.configure n) s =
      .next { s with queue := s.queue ++ [entryFC 0x01 n s], cmdResult := 0, ctlTableSize := n } := by
  have hacc : pushAccepted (configureCheck n s) s := ⟨configureCheck_eq_none.2 ⟨h0, hmax⟩, hroom⟩
  simp only [exec, execConfigure, if_pos hacc, pushCommand_accepted _ hacc]

theorem exec_wrsample {i : Word} (w : Word) (hi : i.toNat < s.ctlTableSize.toNat) :
    exec (.wrsample i w) s = .next { s with queue := s.queue ++ [entryFW 0x02 i w], cmdResult := 0 } := by
  have hacc : pushAccepted (wrsampleCheck i s) s := ⟨wrsampleCheck_eq_none.2 hi, hroom⟩
  simp only [exec, execWrsample, pushCommand_accepted _ hacc]

end Push

/-! ### What an entry's opcode makes its application do -/

section Apply
variable (s : State) {e : QEntry}

theorem applyEntry_nop (h : e.opcode = 0) : applyEntry s e = s := by
  rw [applyEntry, h]
  rfl

theorem applyEntry_configure (h : e.opcode = 1) : applyEntry s e = applyConfigure e s := by
  rw [applyEntry, h]
  rfl

theorem applyEntry_wrsample (h : e.opcode = 2) : applyEntry s e = applyWrsample e s := by
  rw [applyEntry, h]
  rfl

theorem applyEntry_resetAll (h : e.opcode = 6) : applyEntry s e = applyResetAll s := by
  rw [applyEntry, h]
  rfl

theorem applyEntry_setEnv (h : e.opcode = 7) : applyEntry s e = applySetEnv e s := by
  rw [applyEntry, h]
  rfl

end Apply

end Sys2Proof.Machine

namespace Sys2Proof.Laws

/-- Settles O34: the index and the weight are the quotient and the remainder of `p * N`, and the integer datapath
rounds the rational interpolation. -/
theorem lookupFollowsRules : Obligations.LookupFollowsRules := by
  refine ⟨rfl, fun _ => rfl, fun s p => ⟨fun h => lookup_empty h p, fun h => ?_⟩⟩
  simp only [Nat.shiftRight_eq_div_pow]
  refine ⟨lookupIndex_lt (BitVec.toNat_ne.1 h) p, (lookup_nonempty h p).trans ?_⟩
  split
  next hfin =>
    obtain ⟨h0, h1⟩ := hfin
    exact interpolate_finite h0 h1 _
  next hfin => exact interpolate_nonfinite hfin _

/-- Settles O35: the weight is 0, and rounding fixes a finite word. -/
theorem lookupAtGridPoint : Obligations.LookupAtGridPoint := by
  intro s p i hN hp h0 h1
  rw [lookup_between hN (hp.trans (Nat.add_zero _).symm) (by positivity) h0 h1, ← specRne32_f32val h0]
  simp [between]

/-- Settles O36: the weight is one half. -/
theorem lookupAtMidpoint : Obligations.LookupAtMidpoint := by
  intro s p i hN hp h0 h1
  rw [lookup_between hN hp (by norm_num) h0 h1, between]
  congr 2
  push_cast
  ring

/-- Settles O37: the interpolation stays between two finite words, and rounding in the finite range does not
overflow. -/
theorem lookupResultIsFinite : Obligations.LookupResultIsFinite := by
  intro s p w h
  by_cases hN : s.tableSize = 0
  · cases (lookup_empty hN p).symm.trans h
    rfl
  · exact isFinite_of_interpolate (lookupFrac_lt _ p) ((lookup_nonempty hN p).symm.trans h)

/-- Settles O8: the write reaches the PROBE port and runs the instruction. -/
theorem probePhaseWriteFollowsRules : Obligations.ProbePhaseWriteFollowsRules := by
  intro s w rest hin
  rw [step_portWrite (port := .probePhase) hin]
  exact exec_probe w _

/-- Settles O13: the push checks pass, and CTL_TABLE_SIZE follows at once. -/
theorem configureIsQueued : Obligations.ConfigureIsQueued := fun _ _ h0 hmax hroom => exec_configure hroom h0 hmax

/-- Settles O14: the index check passes. -/
theorem wrsampleIsQueued : Obligations.WrsampleIsQueued := fun _ _ w hi hroom => exec_wrsample hroom w hi

/-- Settles O20: the not-busy branch of PROBE. -/
theorem probeLooksUpTable : Obligations.ProbeLooksUpTable := by
  intro s p hbusy
  rw [exec_probe, Spec.probePhaseWrite, if_neg (by simp [hbusy])]

/-- Settles O21: the opcode selects the command's application, and the stores' read-after-write laws give its effect
on the table. -/
theorem appliedBankAndTableCommands : Obligations.AppliedBankAndTableCommands := by
  intro s e
  refine ⟨applyEntry_nop s, fun h => ?_, fun h => ?_, fun h => ?_, applyEntry_setEnv s⟩
  · exact ⟨s.mem.zeroTable, applyEntry_configure s h, zeroTable_outbuf _, readTable_zeroTable _⟩
  · exact ⟨s.mem.writeTable e.arg0.toNat e.arg1, applyEntry_wrsample s h, writeTable_outbuf _ _ _,
      readTable_writeTable_same _ _ _, fun i hi => readTable_writeTable_other _ _ _ _ hi⟩
  · refine ⟨s.voices.map Voice.silence, applyEntry_resetAll s h, List.length_map _, fun n x hx => ?_⟩
    rw [List.getElem?_map, hx]
    rfl

end Sys2Proof.Laws
end

section
/-! PROOFS. The voice (41_voice.md R80 to R86): the pushes of its four commands and what their application changes,
the envelope as linear progress toward a bound, and the sample as one rounding that does not leave the looked-up
value's magnitude. -/

open Sys2Proof Sys2Proof.Machine

namespace Sys2Proof.Machine

/-! ### Running the voice commands -/

section VoicePush
variable {s : State} (hroom : s.queue.length ≠ s.params.cmdqDepth)
include hroom

theorem exec_activate {slot : Byte} {inc : Word} (note : BitVec 16) (vel : Byte)
    (hslot : slot.toNat < s.params.numVoices) (hinc : inc ≠ 0) :
    exec (.activate slot note vel inc) s = .next
      (if s.ctlTableSize = 0 then
        record .cmdOp .uninitializedTable
          { s with queue := s.queue ++ [entryFA 0x03 slot note vel inc], cmdResult := 0 }
      else { s with queue := s.queue ++ [entryFA 0x03 slot note vel inc], cmdResult := 0 }) := by
  have hacc : pushAccepted (activateCheck slot inc s) s := ⟨activateCheck_eq_none.2 ⟨hslot, hinc⟩, hroom⟩
  simp only [exec, execActivate, pushCommand_accepted _ hacc]
  by_cases hsize : s.ctlTableSize = 0
  · rw [if_pos ⟨hacc, hsize⟩, if_pos hsize]
  · rw [if_neg (fun h => hsize h.2), if_neg hsize]

theorem exec_release {slot : Byte} (hslot : slot.toNat < s.params.numVoices) :
    exec (.release slot) s = .next { s with queue := s.queue ++ [entryFS 0x04 slot s], cmdResult := 0 } := by
  have hacc : pushAccepted (slotCheck s slot) s := ⟨slotCheck_eq_none.2 hslot, hroom⟩
  simp only [exec, execRelease, pushCommand_accepted _ hacc]

theorem exec_silence {slot : Byte} (hslot : slot.toNat < s.params.numVoices) :
    exec (.silence slot) s = .next { s with queue := s.queue ++ [entryFS 0x05 slot s], cmdResult := 0 } := by
  have hacc : pushAccepted (slotCheck s slot) s := ⟨slotCheck_eq_none.2 hslot, hroom⟩
  simp only [exec, execSilence, pushCommand_accepted _ hacc]

theorem exec_setEnv {a r : BitVec 25} (ha : StepOk a) (hr : StepOk r) :
    exec (.setEnv a r) s = .next { s with queue := s.queue ++ [entryFE 0x07 a r], cmdResult := 0 } := by
  have hacc : pushAccepted (setEnvCheck a r) s := ⟨setEnvCheck_eq_none.2 ⟨ha, hr⟩, hroom⟩
  simp only [exec, execSetEnv, pushCommand_accepted _ hacc]

end VoicePush

/-- A step register's non-zero value is at least 1 (10_state.md R23). -/
theorem stepOk_of_ne_zero {a : BitVec 25} (h0 : a ≠ 0) (hle : a.toNat ≤ Config.envOne) : StepOk a :=
  ⟨Nat.one_le_iff_ne_zero.2 (BitVec.toNat_ne.1 h0), hle⟩

/-! ### Applying the voice commands -/

/-- Updating a slot that exists replaces its voice. -/
theorem updateVoice_of_get {s : State} {n : ℕ} {v : Voice} (h : s.voices[n]? = some v) (f : Voice → Voice) :
    s.updateVoice n f = { s with voices := s.voices.set n (f v) } := by
  rw [State.updateVoice, List.modify_eq_set_getElem?, h]
  rfl

section ApplyVoice
variable {s : State} {e : QEntry} {v : Voice} (hget : s.voices[e.slot.toNat]? = some v)
include hget

theorem applyEntry_activate (h : e.opcode = 3) :
    applyEntry s e =
      { s with voices := s.voices.set e.slot.toNat (v.activate (entryNote e) e.vel e.arg1) } := by
  rw [applyEntry, h]
  exact updateVoice_of_get hget _

theorem applyEntry_release (h : e.opcode = 4) :
    applyEntry s e = { s with voices := s.voices.set e.slot.toNat v.release } := by
  rw [applyEntry, h]
  exact updateVoice_of_get hget _

theorem applyEntry_silence (h : e.opcode = 5) :
    applyEntry s e = { s with voices := s.voices.set e.slot.toNat v.silence } := by
  rw [applyEntry, h]
  exact updateVoice_of_get hget _

end ApplyVoice

/-! ### The transitions of R86 -/

section Transitions
variable {v : Voice}

theorem release_sounding (h : v.stage = .attack ∨ v.stage = .sustain) :
    v.release = { v with stage := .release } := by
  rcases h with h | h <;> simp only [Voice.release, h]

theorem release_otherwise (h : v.stage = .idle ∨ v.stage = .release) : v.release = v := by
  rcases h with h | h <;> simp only [Voice.release, h]

/-- The model's envelope step on 25-bit words is R85's computation on numbers. -/
theorem envStep_eq_spec (v : Voice) (a r : BitVec 25) :
    ((v.envStep a r).stage, (v.envStep a r).env.toNat) =
      Spec.envStep a.toNat r.toNat (v.stage, v.env.toNat) := by
  cases hs : v.stage with
  | idle => rw [envStep_idle a r hs, hs]; rfl
  | sustain => rw [envStep_sustain a r hs, hs]; rfl
  | attack =>
    have hfull : Config.envOne ≤ v.env.toNat + a.toNat ↔ min (v.env.toNat + a.toNat) (2 ^ 24) = 2 ^ 24 :=
      min_eq_right_iff.symm
    simp only [envStep_attack_stage a r hs, envStep_attack_level a r hs, hfull]
    rfl
  | release =>
    simp only [envStep_release_stage a r hs, envStep_release_level a r hs, Spec.envStep, Nat.sub_eq_zero_iff_le]

/-- Attack is left for Sustain at full level only. -/
theorem envStep_attack_cases (a r : BitVec 25) (h : v.stage = .attack) :
    (v.envStep a r).stage = .attack ∨
      ((v.envStep a r).stage = .sustain ∧ (v.envStep a r).env.toNat = Config.envOne) := by
  rw [envStep_attack_stage a r h, envStep_attack_level a r h]
  split
  next hfull => exact .inr ⟨rfl, min_eq_right hfull⟩
  next => exact .inl rfl

/-- Release is left for Idle at level 0 only. -/
theorem envStep_release_cases (a r : BitVec 25) (h : v.stage = .release) :
    (v.envStep a r).stage = .release ∨ ((v.envStep a r).stage = .idle ∧ (v.envStep a r).env = 0) := by
  rw [envStep_release_stage a r h]
  split
  next hlow =>
    have hlevel : (v.envStep a r).env.toNat = 0 := by
      rw [envStep_release_level a r h, Nat.sub_eq_zero_of_le hlow]
    exact .inr ⟨rfl, BitVec.eq_of_toNat_eq hlevel⟩
  next => exact .inl rfl

end Transitions

theorem applyResetAll_silent (s : State) : ∀ x ∈ (applyResetAll s).voices, x.stage = .idle ∧ x.env = 0 := by
  intro x hx
  obtain ⟨v, -, rfl⟩ := List.mem_map.1 hx
  exact ⟨rfl, rfl⟩

theorem resetStep_silent (s : State) : ∀ x ∈ (resetStep s).voices, x.stage = .idle ∧ x.env = 0 := by
  intro x hx
  obtain rfl := List.eq_of_mem_replicate hx
  exact ⟨rfl, rfl⟩

/-! ### How long an attack or a release lasts -/

/-- The number of steps of size `c`, at least one, that cover a distance `D`. -/
def coverSteps (D c : ℕ) : ℕ := max 1 (D ⌈/⌉ c)

theorem le_coverSteps_mul (D : ℕ) {c : ℕ} (hc : 0 < c) : D ≤ coverSteps D c * c := by
  rw [mul_comm]
  exact (ceilDiv_le_iff_le_mul hc).1 (le_max_right _ _)

theorem mul_lt_of_lt_coverSteps {D c k : ℕ} (hc : 0 < c) (hk : k < coverSteps D c) (h0 : k ≠ 0) : k * c < D := by
  have hceil : k < D ⌈/⌉ c := (lt_max_iff.1 hk).resolve_left (by omega)
  rw [mul_comm]
  exact not_le.1 (mt (ceilDiv_le_iff_le_mul hc).2 (not_le.2 hceil))

/-- The last step of a cover starts within the distance and ends at or past it. -/
theorem coverSteps_eq_succ (D : ℕ) {c : ℕ} (hc : 0 < c) :
    ∃ k, coverSteps D c = k + 1 ∧ D ≤ k * c + c := by
  obtain ⟨k, hk⟩ := Nat.exists_eq_add_of_le' (le_max_left _ _ : 1 ≤ coverSteps D c)
  exact ⟨k, hk, by rw [← Nat.add_one_mul, ← hk]; exact le_coverSteps_mul D hc⟩

section Duration
variable {v : Voice} {a r : BitVec 25}

/-- An attack short of the full level goes on, its level rising by the attack step each time. -/
theorem iterate_envStep_attack (h : v.stage = .attack) (k : ℕ)
    (hk : k ≠ 0 → k * a.toNat < Config.envOne - v.env.toNat) :
    ((Voice.envStep a r)^[k] v).stage = .attack ∧
      ((Voice.envStep a r)^[k] v).env.toNat = v.env.toNat + k * a.toNat := by
  induction k with
  | zero => exact ⟨h, by simp⟩
  | succ k ih =>
    have hnext : k * a.toNat + a.toNat < Config.envOne - v.env.toNat := Nat.succ_mul k _ ▸ hk k.succ_ne_zero
    obtain ⟨hstage, hlevel⟩ := ih (fun _ => by omega)
    rw [Function.iterate_succ_apply', envStep_attack_stage a r hstage, envStep_attack_level a r hstage, hlevel,
      Nat.succ_mul]
    exact ⟨if_neg (by omega), by omega⟩

/-- A release above level 0 goes on, its level falling by the release step each time. -/
theorem iterate_envStep_release (h : v.stage = .release) (k : ℕ) (hk : k ≠ 0 → k * r.toNat < v.env.toNat) :
    ((Voice.envStep a r)^[k] v).stage = .release ∧
      ((Voice.envStep a r)^[k] v).env.toNat = v.env.toNat - k * r.toNat := by
  induction k with
  | zero => exact ⟨h, by simp⟩
  | succ k ih =>
    have hnext : k * r.toNat + r.toNat < v.env.toNat := Nat.succ_mul k _ ▸ hk k.succ_ne_zero
    obtain ⟨hstage, hlevel⟩ := ih (fun _ => by omega)
    rw [Function.iterate_succ_apply', envStep_release_stage a r hstage, envStep_release_level a r hstage, hlevel,
      Nat.succ_mul]
    exact ⟨if_neg (by omega), by omega⟩

end Duration

/-! ### The gain (R84) -/

/-- The exact product R84 rounds: the looked-up value at the level and the velocity. -/
def gained (L : Word) (env : BitVec 25) (vel : Byte) : ℚ :=
  Spec.f32val L * (env.toNat : ℚ) * (vel.toNat : ℚ) / (2 ^ 24 * 255)

theorem gainDenominator_pos : 0 < f32one * (Config.envOne * 255) := Nat.mul_pos f32one_pos (by decide)

/-- The integer quotient `applyGain` rounds is the exact product. -/
theorem gain_quotient {L : Word} (h : isFinite L = true) (env : BitVec 25) (vel : Byte) :
    ((f32units L * (env.toNat : ℤ) * (vel.toNat : ℤ) : ℤ) : ℚ) / ((f32one * (Config.envOne * 255) : ℕ) : ℚ) =
      gained L env vel := by
  have hone : (f32one : ℚ) ≠ 0 := by exact_mod_cast f32one_pos.ne'
  rw [gained, ← f32units_div_f32one h, Config.envOne]
  push_cast
  field_simp
  ring

theorem applyGain_eq {L : Word} (h : isFinite L = true) (env : BitVec 25) (vel : Byte) :
    applyGain L env vel = Spec.rne32 (gained L env vel) := by
  rw [applyGain, rne32_eq_spec _ gainDenominator_pos, gain_quotient h]

/-- Level and velocity are fractions of their full values, so the gain does not raise the magnitude. -/
theorem abs_gained_le (L : Word) {env : BitVec 25} (vel : Byte) (h : env.toNat ≤ 2 ^ 24) :
    |gained L env vel| ≤ |Spec.f32val L| := by
  have henv : (env.toNat : ℚ) ≤ 2 ^ 24 := by exact_mod_cast h
  have hvel : (vel.toNat : ℚ) ≤ 255 := by exact_mod_cast Nat.le_of_lt_succ vel.isLt
  have habs : |gained L env vel| = |Spec.f32val L| * (env.toNat * vel.toNat) / (2 ^ 24 * 255) := by
    rw [gained, mul_assoc, abs_div, abs_mul]
    norm_num [abs_of_nonneg]
  rw [habs, div_le_iff₀ (by norm_num)]
  gcongr

/-! ### Rounding does not pass a representable magnitude -/

theorem abs_f32val (w : Word) : |Spec.f32val w| = significand w * 2 ^ (binade w - 23) := by
  have hpos : (0 : ℚ) ≤ significand w * 2 ^ (binade w - 23) := by positivity
  rw [f32val_eq]
  split <;> simp [abs_of_nonneg hpos]

theorem binade_le {w : Word} (h : isFinite w = true) : binade w ≤ 127 := by
  have hfin := (isFinite_iff w).1 h
  have hlt := expField_lt w
  unfold binade
  omega

theorem fracField_packF32 (s : Bool) (e m : ℕ) : fracField (packF32 s e m) = m % 2 ^ 23 := by
  rw [fracField, packF32, BitVec.extractLsb'_append_eq_right, BitVec.toNat_ofNat]

/-- Packing in a finite binade raises neither the rounded integer nor the binade. -/
theorem packRounded_fields_le (s : Bool) {e : ℤ} (M : ℕ) (hlow : -126 ≤ e) (hhigh : e ≤ 127) :
    significand (packRounded s e M) ≤ M ∧ binade (packRounded s e M) ≤ e := by
  rw [packRounded, if_neg (by omega : ¬ 127 < e)]
  unfold significand binade
  split
  next hzero => exact ⟨Nat.zero_le _, hlow⟩
  next =>
    split
    next hnormal =>
      rw [expField_packF32 _ _ (by omega), fracField_packF32, if_neg (by omega)]
      omega
    next hsubnormal =>
      rw [expField_packF32 _ _ (by omega), fracField_packF32, if_pos rfl]
      omega

theorem abs_f32val_packRounded_le (s : Bool) {e : ℤ} (M : ℕ) (hlow : -126 ≤ e) (hhigh : e ≤ 127) :
    |Spec.f32val (packRounded s e M)| ≤ M * 2 ^ (e - 23) := by
  obtain ⟨hsig, hbin⟩ := packRounded_fields_le s M hlow hhigh
  rw [abs_f32val]
  gcongr
  norm_num

theorem abs_f32val_lt (w : Word) : |Spec.f32val w| < 2 ^ (binade w + 1) := by
  calc |Spec.f32val w| = significand w * 2 ^ (binade w - 23) := abs_f32val w
    _ < 2 ^ (24 : ℤ) * 2 ^ (binade w - 23) := by gcongr; exact_mod_cast significand_lt w
    _ = 2 ^ (binade w + 1) := by rw [← zpow_add₀ two_ne_zero]; congr 1; ring

/-- A word's value on the grid of any lower binade. -/
theorem abs_f32val_on_grid {w : Word} {e : ℤ} (h : e ≤ binade w) :
    |Spec.f32val w| = ((significand w * 2 ^ (binade w - e).toNat : ℕ) : ℚ) * 2 ^ (e - 23) := by
  rw [abs_f32val, Nat.cast_mul, Nat.cast_pow, Nat.cast_ofNat, ← zpow_two_of_nonneg (by omega), mul_assoc,
    ← zpow_add₀ two_ne_zero]
  congr 2
  ring

/-- The binade RNE32 takes for a quotient is at most that of a word no smaller in magnitude. -/
theorem floorLog2_le_binade {a d : ℕ} {w : Word} (ha : 0 < a) (hd : 0 < d) (h : (a : ℚ) / d ≤ |Spec.f32val w|) :
    max (floorLog2 a d) (-126) ≤ binade w := by
  have hx : (0 : ℚ) < (a : ℚ) / d := by positivity
  have hlog : floorLog2 a d < binade w + 1 := by
    rw [floorLog2_eq_log ha hd, ← Int.lt_zpow_iff_log_lt one_lt_two hx, Nat.cast_ofNat]
    exact h.trans_lt (abs_f32val_lt w)
  exact max_le (by omega) (binade_ge w)

/-- Rounding a quotient does not pass a finite word's magnitude: that magnitude is an integer on the quotient's own
grid, and a carry into the next binade happens only below the word's binade. -/
theorem abs_f32val_rne32_le {n : ℤ} {d : ℕ} {w : Word} (hd : 0 < d) (hw : isFinite w = true)
    (h : |(n : ℚ) / d| ≤ |Spec.f32val w|) : |Spec.f32val (rne32 n d)| ≤ |Spec.f32val w| := by
  by_cases hn : n = 0
  · have hsig : significand 0 = 0 := rfl
    rw [rne32, if_pos hn, abs_f32val 0, hsig, Nat.cast_zero, zero_mul]
    exact abs_nonneg _
  have habs : |(n : ℚ) / d| = (n.natAbs : ℚ) / d := by
    rw [abs_div, Nat.abs_cast, Nat.cast_natAbs, Int.cast_abs]
  rw [habs] at h
  have hle := floorLog2_le_binade (Int.natAbs_pos.mpr hn) hd h
  have hlow : -126 ≤ max (floorLog2 n.natAbs d) (-126) := le_max_right _ _
  have htop := binade_le hw
  simp only [rne32, if_neg hn]
  generalize max (floorLog2 n.natAbs d) (-126) = e at hle hlow ⊢
  have hgrid := abs_f32val_on_grid hle
  have hround := roundScaled_le hd (hgrid ▸ h)
  generalize roundScaled n.natAbs d (e - 23) = M at hround ⊢
  have hvalue : (M : ℚ) * 2 ^ (e - 23) ≤ |Spec.f32val w| := by
    rw [hgrid]
    gcongr
  split
  next hcarry =>
    have hbelow : e ≠ binade w := by
      rintro rfl
      rw [sub_self, Int.toNat_zero, pow_zero, mul_one] at hround
      have := significand_lt w
      omega
    calc |Spec.f32val (packRounded _ (e + 1) (2 ^ 23))|
        ≤ ((2 ^ 23 : ℕ) : ℚ) * 2 ^ (e + 1 - 23) := abs_f32val_packRounded_le _ _ (by omega) (by omega)
      _ = (M : ℚ) * 2 ^ (e - 23) := by
          rw [hcarry, add_sub_right_comm, zpow_add_one₀ two_ne_zero]
          push_cast
          ring
      _ ≤ |Spec.f32val w| := hvalue
  next => exact (abs_f32val_packRounded_le _ _ hlow (hle.trans htop)).trans hvalue

/-- The gained word is finite and no larger in magnitude than the looked-up one. -/
theorem applyGain_bounded {L : Word} {env : BitVec 25} (vel : Byte) (hL : isFinite L = true)
    (henv : env.toNat ≤ 2 ^ 24) :
    isFinite (applyGain L env vel) = true ∧ |Spec.f32val (applyGain L env vel)| ≤ |Spec.f32val L| := by
  have hle := abs_gained_le L vel henv
  rw [← gain_quotient hL] at hle
  exact ⟨isFinite_rne32 gainDenominator_pos (hle.trans (abs_f32val_le hL)),
    abs_f32val_rne32_le gainDenominator_pos hL hle⟩

/-! ### The sample word -/

section Sample
variable {s : State} {v : Voice}

theorem voiceSample_finite {L : Word} (h : s.lookup (v.phase + v.inc) = .finite L) :
    (s.voiceSample v).2 = applyGain L v.env v.vel := by
  simp only [State.voiceSample, h, gainOrSilence]

theorem voiceSample_nonfinite (h : s.lookup (v.phase + v.inc) = .nonfinite) : (s.voiceSample v).2 = 0 := by
  simp only [State.voiceSample, h, gainOrSilence]

end Sample

end Sys2Proof.Machine

namespace Sys2Proof.Laws

/-- Settles O28: each row of R86 is a lemma about its event. -/
theorem stageTransitions : Obligations.StageTransitions := fun s v _ _ _ a r hv _ _ =>
  ⟨⟨rfl, rfl, hv.idle_level⟩, release_sounding, release_otherwise, ⟨rfl, rfl⟩, applyResetAll_silent s,
    resetStep_silent s, envStep_eq_spec v a r, envStep_attack_cases a r, envStep_release_cases a r⟩

/-- Settles O29: the level rises by the attack step, and the last of the steps that cover the distance to the full
level is the one that reaches it. -/
theorem attackDuration : Obligations.AttackDuration := by
  intro v a r hs _ ⟨ha, _⟩ n
  have hbefore (k : ℕ) (hk : k < n) :=
    iterate_envStep_attack (r := r) hs k (mul_lt_of_lt_coverSteps ha hk)
  obtain ⟨k, hn : n = k + 1, hcover⟩ := coverSteps_eq_succ (Config.envOne - v.env.toNat) ha
  obtain ⟨hstage, hlevel⟩ := hbefore k (by omega)
  have hfull : Config.envOne ≤ v.env.toNat + k * a.toNat + a.toNat := by omega
  refine ⟨fun k hk => (hbefore k hk).1, ?_⟩
  rw [hn, Function.iterate_succ_apply', envStep_attack_stage a r hstage, envStep_attack_level a r hstage, hlevel]
  exact ⟨if_pos hfull, min_eq_right hfull⟩

/-- Settles O30: the level falls by the release step, and the last of the steps that cover the level is the one that
reaches 0. -/
theorem releaseDuration : Obligations.ReleaseDuration := by
  intro v a r hs ⟨hr, _⟩ n
  have hbefore (k : ℕ) (hk : k < n) :=
    iterate_envStep_release (a := a) hs k (mul_lt_of_lt_coverSteps hr hk)
  obtain ⟨k, hn : n = k + 1, hcover⟩ := coverSteps_eq_succ v.env.toNat hr
  obtain ⟨hstage, hlevel⟩ := hbefore k (by omega)
  refine ⟨fun k hk => ?_, ?_⟩
  · obtain ⟨hstage, -⟩ := hbefore k hk
    refine ⟨hstage, fun hpos => ?_⟩
    rw [Function.iterate_succ_apply', envStep_release_level a r hstage]
    omega
  · have hempty : (((Voice.envStep a r)^[k] v).envStep a r).env.toNat = 0 := by
      rw [envStep_release_level a r hstage]
      omega
    rw [hn, Function.iterate_succ_apply', envStep_release_stage a r hstage]
    exact ⟨if_pos (by omega), BitVec.eq_of_toNat_eq hempty⟩

/-- Settles O38: the integer gain rounds the exact product over rationals once. -/
theorem voiceSampleFollowsRules : Obligations.VoiceSampleFollowsRules := by
  intro s v
  refine ⟨rfl, ⟨envStep_phase _ _ _, envStep_note _ _ _, envStep_vel _ _ _, envStep_inc _ _ _⟩,
    voiceSample_nonfinite, fun L hL => ?_⟩
  exact (voiceSample_finite hL).trans (applyGain_eq (lookupResultIsFinite s _ L hL) v.env v.vel)

/-- Settles O39: a gain of at most 1 keeps the exact product within the looked-up word's magnitude, and rounding does
not pass it. -/
theorem voiceWordIsFiniteAndBounded : Obligations.VoiceWordIsFiniteAndBounded := by
  intro s v henv
  have hfinite {L : Word} (hL : s.lookup (v.phase + v.inc) = .finite L) :=
    applyGain_bounded v.vel (lookupResultIsFinite s _ L hL) henv
  refine ⟨?_, fun L hL => voiceSample_finite hL ▸ (hfinite hL).2⟩
  cases hlookup : s.lookup (v.phase + v.inc) with
  | finite L => exact voiceSample_finite hlookup ▸ (hfinite hlookup).1
  | nonfinite => rw [voiceSample_nonfinite hlookup]; rfl

/-- Settles O15: the push checks pass, and without a table the warning is recorded on the queued state. -/
theorem activateIsQueued : Obligations.ActivateIsQueued := by
  intro s slot note vel inc hslot hinc hroom
  rw [exec_activate hroom note vel hslot hinc]
  rfl

/-- Settles O16: the slot check passes. -/
theorem releaseAndSilenceAreQueued : Obligations.ReleaseAndSilenceAreQueued := fun _ _ hslot hroom =>
  ⟨exec_release hroom hslot, exec_silence hroom hslot⟩

/-- Settles O18: both steps are in range. -/
theorem setEnvIsQueued : Obligations.SetEnvIsQueued := fun _ _ _ ha0 ha hr0 hr hroom =>
  exec_setEnv hroom (stepOk_of_ne_zero ha0 ha) (stepOk_of_ne_zero hr0 hr)

/-- Settles O22: the opcode selects the command's application, which replaces the one voice by what the command
makes of it; a RELEASE of an Idle or releasing voice puts it back as it was. -/
theorem appliedVoiceCommands : Obligations.AppliedVoiceCommands := by
  intro s e v hget
  refine ⟨applyEntry_activate hget, fun h => ?_, applyEntry_silence hget⟩
  rw [applyEntry_release hget h]
  split
  next hs => rw [release_sounding hs]
  next hs =>
    have hrest : v.stage = .idle ∨ v.stage = .release := by cases h : v.stage <;> simp_all
    obtain ⟨hlt, hv⟩ := List.getElem?_eq_some_iff.1 hget
    rw [release_otherwise hrest, ← hv, List.set_getElem_self]

end Sys2Proof.Laws
end

section
/-! PROOFS. Rendering (42_render.md R87 to R93): the pushes of the bank commands, the drain as a commuting fold, the
RENDER trigger, the frame's exact sum over rationals, the part of the state a block's output is a function of, and
the silent block. -/

open Sys2Proof Sys2Proof.Machine

namespace Sys2Proof.Machine

/-! ### Running NOP and RESET_ALL -/

section BankPush
variable {s : State} (hroom : s.queue.length ≠ s.params.cmdqDepth)
include hroom

theorem exec_nop : exec .nop s = .next { s with queue := s.queue ++ [entryFN 0x00 s], cmdResult := 0 } := by
  have hacc : pushAccepted none s := ⟨rfl, hroom⟩
  simp only [exec, execNop, pushCommand_accepted _ hacc]

theorem exec_resetAll :
    exec .resetAll s = .next { s with queue := s.queue ++ [entryFN 0x06 s], cmdResult := 0 } := by
  have hacc : pushAccepted none s := ⟨rfl, hroom⟩
  simp only [exec, execResetAll, pushCommand_accepted _ hacc]

end BankPush

/-! ### Draining the queue (R90) -/

/-- No command reads or writes the queue when it is applied. -/
theorem applyEntry_withQueue (s : State) (e : QEntry) (q : List QEntry) :
    applyEntry { s with queue := q } e = { applyEntry s e with queue := q } := by
  unfold applyEntry
  split <;> rfl

theorem foldl_applyEntry_withQueue (es : List QEntry) (s : State) (q : List QEntry) :
    es.foldl applyEntry { s with queue := q } = { es.foldl applyEntry s with queue := q } := by
  induction es generalizing s with
  | nil => rfl
  | cons e es ih => rw [List.foldl_cons, List.foldl_cons, applyEntry_withQueue, ih]

theorem applyAll_withQueue (s : State) (q : List QEntry) :
    applyAll { s with queue := q } = { q.foldl applyEntry s with queue := [] } := by
  rw [applyAll, foldl_applyEntry_withQueue]

theorem applyAll_of_nil {s : State} (h : s.queue = []) : applyAll s = s := by
  rw [applyAll, h, List.foldl_nil, ← h]

theorem applyAll_of_cons {s : State} {e : QEntry} {q : List QEntry} (h : s.queue = e :: q) :
    applyAll s = applyAll (applyEntry { s with queue := q } e) := by
  calc applyAll s = { (e :: q).foldl applyEntry s with queue := [] } := by rw [applyAll, h]
    _ = applyAll { applyEntry s e with queue := q } := (applyAll_withQueue _ q).symm
    _ = applyAll (applyEntry { s with queue := q } e) := congrArg applyAll (applyEntry_withQueue s e q).symm

@[simp] theorem applyAll_irqStatus (s : State) : (applyAll s).irqStatus = s.irqStatus := by
  obtain ⟨vs, n, m, a, r, h⟩ := applyAll_frame s; rw [h]

/-! ### The RENDER trigger (R89) -/

/-- The last lines of R89, after the drain: a block of no frames is complete at once. -/
theorem startBlock_eq (n : BitVec 16) (s : State) :
    startBlock n s =
      if n = 0 then
        { s with
          lastBlockFrames := 0, frameIdx := 0, done := true, renderResult := 0, irqStatus := s.irqStatus ||| 1 }
      else
        { s with
          lastBlockFrames := BitVec.ofNat 13 n.toNat, frameIdx := 0, done := false, renderResult := 0,
          busy := true } := by
  unfold startBlock
  split
  next h => subst h; rfl
  next => rfl

/-- An accepted RENDER starts its block on the drained queue. -/
theorem exec_render_accepted {s : State} {n : BitVec 16} (hb : s.busy = false)
    (hn : n.toNat ≤ s.params.outbufFrames) : exec (.render n) s = .next (startBlock n (applyAll s)) := by
  rcases execRender_cases n s with ⟨c, hc, -⟩ | ⟨-, -, h⟩
  · simp [renderCheck, hb, hn.not_gt] at hc
  · exact h

theorem exec_render_busy {s : State} (n : BitVec 16) (hb : s.busy = true) :
    exec (.render n) s = .next (record .renderCtrl .engineBusy s) := by
  simp [exec, execRender, renderCheck, hb]

theorem exec_render_tooLong {s : State} {n : BitVec 16} (hb : s.busy = false)
    (hn : s.params.outbufFrames < n.toNat) :
    exec (.render n) s = .next (record .renderCtrl .invalidFrameCount s) := by
  simp [exec, execRender, renderCheck, hb, hn]

theorem decode_renderCtrl {d : Word} (h : d.extractLsb' 16 16 = 0) (a0 a1 : Word) :
    decode .renderCtrl d a0 a1 = .ok (.render (d.extractLsb' 0 16)) := by
  simp [decode, decodeRender, requireZero, h]

theorem decode_renderCtrl_reserved {d : Word} (h : d.extractLsb' 16 16 ≠ 0) (a0 a1 : Word) :
    decode .renderCtrl d a0 a1 = .error .reservedField := by
  simpa [decode, decodeRender, requireZero] using h

/-- The write that reaches RENDER_CTRL is R89's pseudocode, one rejection after the other. -/
theorem issue_renderCtrl (d : Word) (s : State) : issue .renderCtrl d s = .next (Spec.renderCtrlWrite d s) := by
  unfold issue Spec.renderCtrlWrite
  by_cases hz : d.extractLsb' 16 16 = 0
  · rw [decode_renderCtrl hz, if_neg (not_not.2 hz)]
    dsimp only
    split
    next hb => exact exec_render_busy _ hb
    next hb =>
      rw [Bool.not_eq_true] at hb
      split
      next hn => exact exec_render_tooLong hb hn
      next hn =>
        have hzero : (d.extractLsb' 0 16).toNat = 0 ↔ d.extractLsb' 0 16 = 0 := BitVec.toNat_inj (y := 0)
        rw [exec_render_accepted hb (not_lt.1 hn), startBlock_eq]
        by_cases h0 : d.extractLsb' 0 16 = 0
        · rw [if_pos h0, if_pos (hzero.2 h0), h0]
          rfl
        · rw [if_neg h0, if_neg (mt hzero.1 h0)]
  · rw [decode_renderCtrl_reserved hz, if_pos hz]
    rfl

/-! ### The mixing tree (R92) -/

@[simp] theorem mix_zero : mix 0 = 0x00000000 := rfl

/-- Packing gives a finite word or, above binade 127, a signed infinity. -/
theorem packRounded_finite_or_infinity (s : Bool) {e : ℤ} (M : ℕ) (he : -126 ≤ e) :
    isFinite (packRounded s e M) = true ∨ fracField (packRounded s e M) = 0 := by
  by_cases hbig : 127 < e
  · refine .inr ?_
    rw [packRounded, if_pos hbig]
    split
    · rfl
    · rw [fracField_packF32, Nat.zero_mod]
  · exact .inl (isFinite_packRounded s M he (by omega))

/-- Rounding gives no NaN. -/
theorem rne32_finite_or_infinity (n : ℤ) (d : ℕ) : isFinite (rne32 n d) = true ∨ fracField (rne32 n d) = 0 := by
  by_cases hn : n = 0
  · rw [rne32, if_pos hn]
    exact .inl rfl
  · simp only [rne32, if_neg hn]
    split <;> exact packRounded_finite_or_infinity _ _ (by omega)

/-! ### The frame's sum (R91) -/

/-- A voice at a legal level contributes its word's value, an Idle one nothing. -/
theorem voiceFrame_value (s : State) {v : Voice} (hv : v.Ok) :
    ((s.voiceFrame v).2 : ℚ) / f32one = if v.stage ≠ .idle then Spec.f32val (s.voiceSample v).2 else 0 := by
  split
  next hs =>
    have hfinite := (Laws.voiceWordIsFiniteAndBounded s v hv.level_le).1
    rw [voiceFrame_active s hs, f32units_div_f32one hfinite]
  next hs => rw [voiceFrame_idle s (not_not.1 hs), Int.cast_zero, zero_div]

theorem specFrameSum_eq_sum (s : State) :
    Spec.frameSum s =
      (s.voices.map fun v => if v.stage ≠ .idle then Spec.f32val (s.voiceSample v).2 else 0).sum := by
  rw [List.sum_eq_foldl, List.foldl_map, Spec.frameSum]
  congr 1
  funext acc v
  split <;> simp

/-- The integer sum in units of 2^-149 is the exact sum of the voices' words. -/
theorem frameSum_div_f32one {s : State} (h : ∀ v ∈ s.voices, v.Ok) :
    (s.frameSum : ℚ) / f32one = Spec.frameSum s := by
  rw [specFrameSum_eq_sum, State.frameSum, Int.cast_list_sum, List.map_map, div_eq_mul_inv,
    ← List.sum_map_mul_right]
  refine congrArg List.sum (List.map_congr_left fun v hv => ?_)
  rw [← voiceFrame_value s (h v hv), div_eq_mul_inv]
  rfl

theorem mix_frameSum {s : State} (h : ∀ v ∈ s.voices, v.Ok) : mix s.frameSum = Spec.rne32 (Spec.frameSum s) := by
  rw [mix, rne32_eq_spec _ f32one_pos, frameSum_div_f32one h]

theorem voiceFrame_voice (s : State) (v : Voice) :
    (s.voiceFrame v).1 = if v.stage = .idle then v else (s.voiceSample v).1 := by
  split
  next hs => rw [voiceFrame_idle s hs]
  next hs => rw [voiceFrame_active s hs]

theorem frameStep_idle {s : State} (h : s.busy = false) : frameStep s = s := by simp [frameStep, h]

theorem frameStep_busy {s : State} (h : s.busy = true) : frameStep s = frameBody s := if_pos h

/-! ### What a block's output is a function of (R91) -/

/-- Two states with one view step their frames to one view. -/
theorem renderView_frameStep {s t : State} (h : Spec.renderView s = Spec.renderView t) :
    Spec.renderView (frameStep s) = Spec.renderView (frameStep t) := by
  have hview := h
  simp only [Spec.renderView, Prod.mk.injEq] at h
  obtain ⟨⟨hparams, hvoices, hsize, hmem⟩, ⟨hattack, hrelease⟩, ⟨hbusy, hdone⟩, ⟨hidx, hlast⟩, hcount⟩ := h
  have hvoice (v : Voice) : s.voiceFrame v = t.voiceFrame v :=
    voiceFrame_congr v hsize (congrArg Memory.table hmem) hattack hrelease
  have hsum : s.frameSum = t.frameSum := by simp only [State.frameSum, hvoices, hvoice]
  cases hb : t.busy with
  | false => rwa [frameStep_idle (hbusy.trans hb), frameStep_idle hb]
  | true =>
    rw [frameStep_busy (hbusy.trans hb), frameStep_busy hb]
    unfold frameBody
    simp only [hidx, hlast, hvoices, hvoice, hmem, hsum, hcount]
    split <;> simp [Spec.renderView, hparams, hsize, hattack, hrelease, hbusy, hdone]

theorem renderView_iterate_frameStep {s t : State} (h : Spec.renderView s = Spec.renderView t) (k : ℕ) :
    Spec.renderView (frameStep^[k] s) = Spec.renderView (frameStep^[k] t) := by
  induction k generalizing s t with
  | zero => exact h
  | succ k ih => exact ih (renderView_frameStep h)

theorem SequencerOk.of_renderView {s t : State} (hs : SequencerOk s)
    (h : Spec.renderView t = Spec.renderView s) : SequencerOk t := by
  simp only [Spec.renderView, Prod.mk.injEq] at h
  obtain ⟨⟨hparams, -⟩, -, ⟨hbusy, hdone⟩, ⟨hidx, hlast⟩, -⟩ := h
  obtain ⟨hiff, hle, hframes, hnot⟩ := hs
  constructor <;> simpa only [hparams, hbusy, hdone, hidx, hlast]

/-- While a block renders, an input other than the engine's turn and reset leaves the view alone: an accepted RENDER
would need BUSY = 0. -/
theorem renderView_of_change {s t : State} {i : Input} {rest : List Input} (hin : s.inputs = i :: rest)
    (hb : s.busy = true) (hframe : i ≠ .frame) (hreset : i ≠ .reset) (hst : Change s t) :
    Spec.renderView t = Spec.renderView s := by
  cases hst with
  | registers => rfl
  | push => rfl
  | render is n haccept hidle => rw [hb] at hidle; cases hidle
  | frame is h =>
    obtain ⟨-, hnil | ⟨rest', hcons⟩⟩ := h
    · cases hin.symm.trans hnil
    · cases hin.symm.trans hcons
      exact absurd rfl hframe
  | reset is h =>
    obtain ⟨rest', hcons⟩ := h
    cases hin.symm.trans hcons
    exact absurd rfl hreset

theorem renderView_stepInput {s t : State} {i : Input} (hb : s.busy = true) (hframe : i ≠ .frame)
    (hreset : i ≠ .reset) (h : stepInput i s = .next t) : Spec.renderView t = Spec.renderView s :=
  renderView_of_change (s := { s with inputs := i :: s.inputs }) rfl hb hframe hreset (step_change h)

theorem runInputs_cons {i : Input} {is : List Input} {s t : State}
    (h : Spec.runInputs (i :: is) s = some t) : ∃ u, stepInput i s = .next u ∧ Spec.runInputs is u = some t := by
  unfold Spec.runInputs at h
  split at h
  next u hu => exact ⟨u, hu, h⟩
  all_goals cases h

@[simp] theorem frameTurns_frame (is : List Input) : Spec.frameTurns (.frame :: is) = Spec.frameTurns is + 1 := by
  simp [Spec.frameTurns]

theorem frameTurns_other {i : Input} (h : i ≠ .frame) (is : List Input) :
    Spec.frameTurns (i :: is) = Spec.frameTurns is := by
  simp [Spec.frameTurns, h]

/-- Input by input: an engine turn is one of the frames, and any other input keeps the view; frames still to come mean
BUSY = 1 throughout. -/
theorem renderView_runInputs {xs : List Input} {s t : State} (hs : SequencerOk s) (hreset : ∀ i ∈ xs, i ≠ .reset)
    (hturns : Spec.frameTurns xs < s.lastBlockFrames.toNat - s.frameIdx.toNat)
    (h : Spec.runInputs xs s = some t) :
    Spec.renderView t = Spec.renderView (frameStep^[Spec.frameTurns xs] s) := by
  induction xs generalizing s with
  | nil => cases h; rfl
  | cons i xs ih =>
    obtain ⟨u, hu, hrun⟩ := runInputs_cons h
    have hrest : ∀ j ∈ xs, j ≠ .reset := fun j hj => hreset j (List.mem_cons_of_mem _ hj)
    have hb : s.busy = true := hs.busy_iff.2 (by omega)
    by_cases hi : i = .frame
    · subst hi
      cases hu
      have hu : frameStep s = frameBody s := frameStep_busy hb
      rw [frameTurns_frame] at hturns ⊢
      rw [Function.iterate_succ_apply]
      refine ih (hu ▸ hs.frameBody hb) hrest ?_ hrun
      have hidx : (s.frameIdx + 1).toNat = s.frameIdx.toNat + 1 := by bv_omega
      rw [hu, frameBody_lastBlockFrames, frameBody_frameIdx, hidx]
      omega
    · have hview := renderView_stepInput hb hi (hreset i List.mem_cons_self) hu
      have hseq := hs.of_renderView hview
      rw [frameTurns_other hi] at hturns ⊢
      rw [← renderView_iterate_frameStep hview]
      refine ih hseq hrest ?_ hrun
      simp only [Spec.renderView, Prod.mk.injEq] at hview
      obtain ⟨-, -, -, ⟨hidx, hlast⟩, -⟩ := hview
      rwa [hidx, hlast]

/-! ### The phase over frames (R93 (a)) -/

/-- A non-Idle slot's frame is VoiceSample (R84). -/
theorem frameStep_voice {s : State} {n : ℕ} {v : Voice} (hb : s.busy = true) (ha : s.slotActive n = true)
    (hv : s.voices[n]? = some v) : (frameStep s).voices[n]? = some (s.voiceSample v).1 := by
  have hactive : v.active = true := by simpa [State.slotActive, hv] using ha
  rw [frameStep_busy hb, frameBody_voices, List.getElem?_map, hv]
  simp [State.voiceFrame, hactive]

theorem phase_after_frames {s : State} {n : ℕ} {v : Voice} (hv : s.voices[n]? = some v) (k : ℕ)
    (h : ∀ j < k, (frameStep^[j] s).busy = true ∧ (frameStep^[j] s).slotActive n = true) :
    ∃ w, (frameStep^[k] s).voices[n]? = some w ∧ w.inc = v.inc ∧
      w.phase = v.phase + BitVec.ofNat 32 k * v.inc := by
  induction k with
  | zero => exact ⟨v, hv, rfl, by simp⟩
  | succ k ih =>
    obtain ⟨w, hw, hinc, hphase⟩ := ih fun j hj => h j (by omega)
    obtain ⟨hb, ha⟩ := h k (by omega)
    rw [Function.iterate_succ_apply']
    refine ⟨_, frameStep_voice hb ha hw, (envStep_inc _ _ _).trans hinc, (envStep_phase _ _ _).trans ?_⟩
    calc w.phase + w.inc = v.phase + (BitVec.ofNat 32 k * v.inc + 1#32 * v.inc) := by
          rw [hphase, hinc, BitVec.one_mul, BitVec.add_assoc]
      _ = v.phase + BitVec.ofNat 32 (k + 1) * v.inc := by rw [BitVec.ofNat_add, BitVec.add_mul]

/-! ### Silence (R88, R92, R93 (e)) -/

/-- No voice sounds. -/
def Silent (s : State) : Prop := ∀ v ∈ s.voices, v.stage = .idle

/-- Silence depends on the voices only. -/
theorem Silent.congr {s t : State} (h : Silent s) (hv : t.voices = s.voices) : Silent t := by
  rwa [Silent, hv]

theorem Silent.frameSum {s : State} (h : Silent s) : s.frameSum = 0 := by
  refine List.sum_eq_zero fun x hx => ?_
  obtain ⟨v, hv, rfl⟩ := List.mem_map.1 hx
  rw [voiceFrame_idle s (h v hv)]

theorem Silent.frameBody_voices {s : State} (h : Silent s) : (frameBody s).voices = s.voices := by
  have hkept : ∀ v ∈ s.voices, (s.voiceFrame v).1 = id v := fun v hv => by rw [voiceFrame_idle s (h v hv)]; rfl
  rw [Machine.frameBody_voices, List.map_congr_left hkept, List.map_id]

theorem Silent.frameBody_readOutbuf {s : State} (h : Silent s) :
    (frameBody s).mem.readOutbuf s.frameIdx.toNat = some 0x00000000 := by
  rw [Machine.frameBody_readOutbuf, readOutbuf_writeOutbuf_same, h.frameSum, mix_zero]

theorem Silent.of_updateVoice {s : State} (h : Silent s) (n : ℕ) {f : Voice → Voice}
    (hf : ∀ v : Voice, v.stage = .idle → (f v).stage = .idle) : Silent (s.updateVoice n f) := by
  intro x hx
  rcases mem_updateVoice hx with hx | ⟨y, hy, rfl⟩
  · exact h x hx
  · exact hf y (h y hy)

/-- ACTIVATE is the one command that makes an Idle voice sound (R80). -/
theorem Silent.applyEntry {s : State} {e : QEntry} (h : Silent s) (he : e.opcode ≠ 3) :
    Silent (applyEntry s e) := by
  unfold Machine.applyEntry
  split
  case h_4 hop => exact absurd (BitVec.eq_of_toNat_eq hop) he
  case h_5 => exact h.of_updateVoice _ fun v hv => by rwa [release_otherwise (.inl hv)]
  case h_6 => exact h.of_updateVoice _ fun _ _ => rfl
  case h_7 => exact fun v hv => (applyResetAll_silent s v hv).1
  all_goals exact h

/-- After a RESET_ALL the rest of the batch keeps silent unless it activates a voice. -/
theorem applyAll_silent {s : State} {q1 q2 : List QEntry} {e : QEntry} (hq : s.queue = q1 ++ e :: q2)
    (he : e.opcode = 6) (hq2 : ∀ x ∈ q2, x.opcode ≠ 3) : Silent (applyAll s) := by
  have hreset : Silent (applyEntry (q1.foldl applyEntry s) e) := by
    rw [applyEntry_resetAll _ he]
    exact fun v hv => (applyResetAll_silent _ v hv).1
  have hfold : Silent (s.queue.foldl applyEntry s) := by
    rw [hq, List.foldl_append, List.foldl_cons]
    exact List.foldlRecOn (motive := Silent) q2 applyEntry hreset fun t ht x hx => ht.applyEntry (hq2 x hx)
  exact hfold

/-- `k` frames of a silent block of `n` frames have been rendered. -/
structure SilentBlock (n k : ℕ) (s : State) : Prop where
  sequencer_ok : SequencerOk s
  length_eq : s.lastBlockFrames.toNat = n
  idx_eq : s.frameIdx.toNat = k
  silent : Silent s
  zeros : ∀ j < k, s.mem.readOutbuf j = some 0x00000000

theorem SilentBlock.frameStep {n k : ℕ} {s : State} (h : SilentBlock n k s) (hk : k < n) :
    SilentBlock n (k + 1) (frameStep s) := by
  obtain ⟨hseq, hlen, hidx, hsilent, hzeros⟩ := h
  have hb : s.busy = true := hseq.busy_iff.2 (by omega)
  rw [frameStep_busy hb]
  refine ⟨hseq.frameBody hb, by rwa [frameBody_lastBlockFrames], ?_, hsilent.congr hsilent.frameBody_voices,
    fun j hj => ?_⟩
  · rw [frameBody_frameIdx]
    bv_omega
  · rcases Nat.lt_succ_iff_lt_or_eq.1 hj with hlt | rfl
    · rw [frameBody_readOutbuf, readOutbuf_writeOutbuf_other _ _ _ _ (by omega)]
      exact hzeros j hlt
    · exact hidx ▸ hsilent.frameBody_readOutbuf

theorem SilentBlock.iterate {n : ℕ} {s : State} (h : SilentBlock n 0 s) {k : ℕ} (hk : k ≤ n) :
    SilentBlock n k (Machine.frameStep^[k] s) := by
  induction k with
  | zero => exact h
  | succ k ih =>
    rw [Function.iterate_succ_apply']
    exact (ih (by omega)).frameStep hk

end Sys2Proof.Machine

namespace Sys2Proof.Laws

/-- Settles O7: the write reaches RENDER_CTRL and runs R89's pseudocode. -/
theorem renderCtrlWriteFollowsRules : Obligations.RenderCtrlWriteFollowsRules := by
  intro s d rest hin
  rw [step_portWrite (port := .renderCtrl) hin]
  exact issue_renderCtrl d _

/-- Settles O23: applying a command and shortening the queue commute. -/
theorem applyAllPopsHeadFirst : Obligations.ApplyAllPopsHeadFirst :=
  ⟨fun _ => applyAll_of_nil, fun _ _ _ => applyAll_of_cons⟩

/-- Settles O24: the integer sum is the exact sum of the finite voice words, rounded once. -/
theorem frameStepFollowsRules : Obligations.FrameStepFollowsRules := by
  intro s hs
  refine ⟨frameStep_idle, fun hb => ⟨s.mem.writeOutbuf s.frameIdx.toNat (mix s.frameSum), ?_, ?_, ?_, ?_⟩⟩
  · exact writeOutbuf_table _ _ _
  · rw [readOutbuf_writeOutbuf_same, mix_frameSum hs.voice_ok]
  · exact fun k hk => readOutbuf_writeOutbuf_other _ _ _ _ hk
  · simp only [frameStep_busy hb, frameBody, voiceFrame_voice, doneIrq]

/-- Settles O25: between the frames nothing touches the view, and a frame's view depends on the view before it. -/
theorem busTrafficCannotDisturbBlock : Obligations.BusTrafficCannotDisturbBlock := fun _ _ _ hs _ hreset hturns h =>
  renderView_runInputs hs hreset hturns h

/-- Settles O26: each frame adds the increment, which no frame changes. -/
theorem phaseAfterFrames : Obligations.PhaseAfterFrames := by
  intro s n k v hv h
  obtain ⟨w, hw, -, hphase⟩ := phase_after_frames hv k h
  rw [hw, Option.map_some, hphase]

/-- Settles O27: the drain leaves no voice sounding, and the silent block's frames write zeros in order. -/
theorem resetAllSilencesNextBlock : Obligations.ResetAllSilencesNextBlock := by
  intro s n q1 q2 e hp hb hn hq he hq2
  refine ⟨_, exec_render_accepted hb hn, fun k hk => ?_⟩
  have hstart : SilentBlock n.toNat 0 (startBlock n (applyAll s)) :=
    { sequencer_ok := .startBlock (by rwa [applyAll_params]) (by rwa [applyAll_busy]) (by rwa [applyAll_params])
      length_eq := by rw [startBlock_lastBlockFrames, frameCount_toNat hp hn]
      idx_eq := by rw [startBlock_frameIdx]; rfl
      silent := (applyAll_silent hq he hq2).congr (startBlock_voices _ _)
      zeros := nofun }
  exact (hstart.iterate hk).zeros

/-- Settles O40: RNE32 gives finite words and infinities; a silent frame's sum is 0. -/
theorem outputIsNeverNaN : Obligations.OutputIsNeverNaN := by
  refine ⟨fun acc ⟨hexp, hfrac⟩ => ?_, mix_zero, fun s hb hs => ?_⟩
  · rcases rne32_finite_or_infinity acc f32one with hfin | hinf
    · exact (isFinite_iff _).1 hfin hexp
    · exact hfrac (BitVec.eq_of_toNat_eq hinf)
  · rw [frameStep_busy hb]
    exact Silent.frameBody_readOutbuf hs

/-- Settles O12: no check but queue space. -/
theorem nopIsQueued : Obligations.NopIsQueued := fun _ => exec_nop

/-- Settles O17: no check but queue space. -/
theorem resetAllIsQueued : Obligations.ResetAllIsQueued := fun _ => exec_resetAll

/-- Settles O19: the accepted branch; the drain leaves IRQ_STATUS alone. -/
theorem renderStartsBlock : Obligations.RenderStartsBlock := by
  intro s n hp hb hn
  refine ⟨frameCount_toNat hp hn, ?_⟩
  simp only [exec_render_accepted hb hn, startBlock_eq, applyAll_irqStatus]

end Sys2Proof.Laws
end

section
/-! PROOFS. The firmware contract (45_firmware_boundary.md R94 to R102): what each operation leaves of the mappings,
and the increments as nearest integers of twelfth roots. -/

open Sys2Proof Sys2Proof.Machine

namespace Sys2Proof.Machine

/-! ### The mappings of notes to slots (R94 (a), R97, R99) -/

@[simp] theorem markPending_map (fw : Firmware) (s : ℕ) : (fw.markPending s).map = fw.map := rfl

@[simp] theorem unmapSlot_map (fw : Firmware) (s : ℕ) : (fw.unmapSlot s).map = fw.map.filter (fun e => e.2 != s) := rfl

@[simp] theorem allocate_map (fw : Firmware) (note : BitVec 16) (s : ℕ) :
    (fw.allocate note s).map = (note, s) :: fw.map.filter (fun e => e.1 != note) := rfl

/-- At most one entry per note, and every entry names a slot the block has. -/
structure MapOk (p : Params) (l : List (BitVec 16 × ℕ)) : Prop where
  nodup_notes : (l.map Prod.fst).Nodup
  slot_lt : ∀ e ∈ l, e.2 < p.numVoices

theorem MapOk.filter {p : Params} {l : List (BitVec 16 × ℕ)} (h : MapOk p l) (keep : BitVec 16 × ℕ → Bool) :
    MapOk p (l.filter keep) where
  nodup_notes := h.nodup_notes.sublist (List.filter_sublist.map _)
  slot_lt e he := h.slot_lt e (List.mem_of_mem_filter he)

/-- A new mapping replaces its note's old one. -/
theorem MapOk.allocate {p : Params} {fw : Firmware} (h : MapOk p fw.map) (note : BitVec 16) {s : ℕ}
    (hs : s < p.numVoices) : MapOk p (fw.allocate note s).map := by
  have hrest := h.filter (fun e => e.1 != note)
  rw [allocate_map]
  refine ⟨List.nodup_cons.2 ⟨fun hmem => ?_, hrest.nodup_notes⟩, List.forall_mem_cons.2 ⟨hs, hrest.slot_lt⟩⟩
  obtain ⟨e, he, hnote⟩ := List.mem_map.1 hmem
  simpa [hnote] using (List.mem_filter.1 he).2

theorem MapOk.markPending {p : Params} {fw : Firmware} (h : MapOk p fw.map) (s : ℕ) :
    MapOk p (fw.markPending s).map := by
  rwa [markPending_map]

theorem MapOk.unmapSlot {p : Params} {fw : Firmware} (h : MapOk p fw.map) (s : ℕ) :
    MapOk p (fw.unmapSlot s).map := by
  rw [unmapSlot_map]
  exact h.filter _

theorem freeSlot_lt {p : Params} {v : FirmwareView} {fw : Firmware} {s : ℕ} (h : freeSlot p v fw = some s) :
    s < p.numVoices :=
  List.mem_range.1 (List.mem_of_find?_eq_some h)

/-- The search starts at slot 0 and moves only to slots in range. -/
theorem oldestSlot_lt {p : Params} (hp : 0 < p.numVoices) (fw : Firmware) : oldestSlot p fw < p.numVoices := by
  refine List.foldlRecOn (motive := (· < p.numVoices)) _ _ hp fun best hbest s hs => ?_
  split
  · exact List.mem_range.1 hs
  · exact hbest

/-- R97's three cases: a retrigger keeps the mappings, a free slot gains one, a stolen slot's passes over. -/
theorem startNote_pushes {p : Params} {v : FirmwareView} {note : BitVec 16} {vel : Byte} {inc : Word}
    {fw fw' : Firmware} {cmds : List Instr} (hp : 0 < p.numVoices) (hmap : MapOk p fw.map)
    (h : startNote p v note vel inc fw = .pushes cmds fw') :
    MapOk p fw'.map ∧ v.level + cmds.length ≤ p.cmdqDepth := by
  unfold startNote at h
  split at h
  case h_1 s _ =>
    obtain ⟨rfl, rfl, hroom⟩ := pushIfRoom_eq_pushes h
    exact ⟨hmap.markPending s, hroom⟩
  case h_2 =>
    split at h
    case h_1 s hfree =>
      obtain ⟨rfl, rfl, hroom⟩ := pushIfRoom_eq_pushes h
      exact ⟨(hmap.markPending s).allocate note (freeSlot_lt hfree), hroom⟩
    case h_2 =>
      obtain ⟨rfl, rfl, hroom⟩ := pushIfRoom_eq_pushes h
      exact ⟨((hmap.unmapSlot _).markPending _).allocate note (oldestSlot_lt hp fw), hroom⟩

/-- A note that ends loses its mapping; an unmapped note pushes nothing, whatever the queue's level. -/
theorem noteOff_pushes {p : Params} {v : FirmwareView} {note : BitVec 16} {fw fw' : Firmware} {cmds : List Instr}
    (hmap : MapOk p fw.map) (h : noteOff p v note fw = .pushes cmds fw') :
    MapOk p fw'.map ∧ v.level + cmds.length ≤ max v.level p.cmdqDepth := by
  unfold noteOff at h
  split at h
  · obtain ⟨rfl, rfl, hroom⟩ := pushIfRoom_eq_pushes h
    exact ⟨hmap.filter _, le_max_of_le_right hroom⟩
  · cases h
    exact ⟨hmap, le_max_left _ _⟩

/-! ### Nearest integers (R95) -/

/-- `m` is the integer nearest the twelfth root of `a / b`, and the even one of two that are equally near. -/
structure IsNearestRoot12 (a b m : ℕ) : Prop where
  low : (2 * m - 1) ^ 12 * b ≤ 2 ^ 12 * a
  high : 2 ^ 12 * a ≤ (2 * m + 1) ^ 12 * b
  tie : 2 ^ 12 * a = (2 * m - 1) ^ 12 * b ∨ 2 ^ 12 * a = (2 * m + 1) ^ 12 * b → m % 2 = 0

/-- The rounded quotient lies within 1/2 of the quotient, and is even at a distance of exactly 1/2. -/
theorem roundHalfEven_nearest (n : ℕ) {d : ℕ} (hd : 0 < d) :
    (2 * roundHalfEven n d - 1) * d ≤ 2 * n ∧ 2 * n ≤ (2 * roundHalfEven n d + 1) * d ∧
      (2 * n = (2 * roundHalfEven n d - 1) * d ∨ 2 * n = (2 * roundHalfEven n d + 1) * d →
        roundHalfEven n d % 2 = 0) := by
  have hdiv : n / d * d + n % d = n := Nat.div_add_mod' n d
  have hmod : n % d < d := Nat.mod_lt n hd
  have hquot : n / d = 0 ∨ d ≤ n / d * d := (Nat.eq_zero_or_pos _).imp_right (Nat.le_mul_of_pos_left d)
  unfold roundHalfEven
  generalize n / d = q at *
  generalize n % d = r at *
  split_ifs <;> simp only [Nat.sub_mul, add_mul, mul_add, one_mul, mul_assoc] <;> omega

/-- A rational root needs no search: the quotient rounds by itself. -/
theorem isNearestRoot12_roundHalfEven (n : ℕ) {d : ℕ} (hd : 0 < d) :
    IsNearestRoot12 (n ^ 12) (d ^ 12) (roundHalfEven n d) := by
  obtain ⟨hlow, hhigh, htie⟩ := roundHalfEven_nearest n hd
  have hinj {x y : ℕ} : x ^ 12 = y ^ 12 ↔ x = y := Nat.pow_left_inj (by decide)
  constructor
  · simpa only [mul_pow] using Nat.pow_le_pow_left hlow 12
  · simpa only [mul_pow] using Nat.pow_le_pow_left hhigh 12
  · simpa only [← mul_pow, hinj] using htie

/-- The search keeps the root between `acc` and `acc + 2^bits`. -/
theorem root12_spec {t bits acc : ℕ} (hle : acc ^ 12 ≤ t) (hlt : t < (acc + 2 ^ bits) ^ 12) :
    root12 bits t acc ^ 12 ≤ t ∧ t < (root12 bits t acc + 1) ^ 12 := by
  induction bits generalizing acc with
  | zero => exact ⟨hle, hlt⟩
  | succ bit ih =>
    rw [root12]
    split
    · exact ih ‹_› (by rwa [add_assoc, ← two_mul, ← pow_succ'])
    · exact ih hle (not_le.1 ‹_›)

/-- The starting width of `nearestRoot12` covers the root. -/
theorem lt_rootBound (t : ℕ) : t < (0 + 2 ^ (Nat.log2 t / 12 + 1)) ^ 12 := by
  calc t < 2 ^ (Nat.log2 t + 1) := Nat.lt_log2_self
    _ ≤ 2 ^ ((Nat.log2 t / 12 + 1) * 12) := Nat.pow_le_pow_right two_pos (by omega)
    _ = _ := by rw [zero_add, pow_mul]

/-- `nearestRoot12` halves `r + 1` for `r` the floor of twice the root. -/
theorem nearestRoot12_spec (a : ℕ) {b : ℕ} (hb : 0 < b) :
    ∃ r, nearestRoot12 a b = (r + 1) / 2 ∧ r ^ 12 * b ≤ 2 ^ 12 * a ∧ 2 ^ 12 * a < (r + 1) ^ 12 * b := by
  obtain ⟨hle, hlt⟩ := root12_spec (Nat.zero_le (2 ^ 12 * a / b)) (lt_rootBound _)
  exact ⟨_, rfl, (Nat.le_div_iff_mul_le hb).1 hle, (Nat.div_lt_iff_lt_mul hb).1 hlt⟩

/-- Where no twice a root is an integer there is no tie, and the search finds the nearest integer. -/
theorem isNearestRoot12_nearestRoot12 {a b : ℕ} (hb : 0 < b) (hirr : ∀ x : ℕ, 2 ^ 12 * a ≠ x ^ 12 * b) :
    IsNearestRoot12 a b (nearestRoot12 a b) := by
  obtain ⟨r, hr, hle, hlt⟩ := nearestRoot12_spec a hb
  have hbelow : 2 * nearestRoot12 a b - 1 ≤ r := by omega
  have habove : r + 1 ≤ 2 * nearestRoot12 a b + 1 := by omega
  refine ⟨le_trans ?_ hle, hlt.le.trans ?_, fun h => (h.elim (hirr _) (hirr _)).elim⟩ <;> gcongr

/-! ### The increment of a note (R95) -/

/-- A power of 2 that is a quotient of twelfth powers has an exponent that is a multiple of 12. -/
theorem exponent_mod_twelve {x y k : ℕ} (hy : 0 < y) (h : x ^ 12 = y ^ 12 * 2 ^ k) : k % 12 = 0 := by
  have hval : 12 * x.factorization 2 = 12 * y.factorization 2 + k := by
    have hfactors := congrArg (fun n => n.factorization 2) h
    simpa [Nat.factorization_mul, hy.ne', Nat.prime_two.factorization_self] using hfactors
  omega

/-- `a / b` is the twelfth power of 440 * 2^32 * 2^((n - 69) / 12) / sr, the increment of note `n` before rounding. -/
def IsIncPow12 (n sr a b : ℕ) : Prop := 0 < b ∧ (440 * 2 ^ 32) ^ 12 * 2 ^ n * b = a * (sr ^ 12 * 2 ^ 69)

/-- `w` is the increment of note `n`: the integer nearest the exact value, modulo 2^32. -/
def IsNearestInc (n sr : ℕ) (w : Word) : Prop :=
  ∃ a b m, IsIncPow12 n sr a b ∧ IsNearestRoot12 a b m ∧ w = BitVec.ofNat 32 m

/-- At a whole number of octaves from note 69 the frequency is rational, and its quotient is rounded once. -/
theorem incOfNote_nearest_of_octave {note : BitVec 16} {sr : ℕ} (hsr : 0 < sr)
    (hoctave : note.toNat % 12 = 69 % 12) : IsNearestInc note.toNat sr (incOfNote note sr) := by
  simp only [incOfNote, if_neg hsr.ne', if_pos hoctave]
  generalize note.toNat = n at *
  split
  case isTrue hge =>
    obtain ⟨k, rfl⟩ : ∃ k, n = 69 + 12 * k := ⟨(n - 69) / 12, by omega⟩
    have hexp : (69 + 12 * k - 69) / 12 = k := by omega
    rw [hexp, incOfFreq_of_pos one_pos hsr]
    refine ⟨_, _, _, ⟨by positivity, ?_⟩, isNearestRoot12_roundHalfEven _ (Nat.mul_pos one_pos hsr), rfl⟩
    ring
  case isFalse hlt =>
    obtain ⟨k, hk⟩ : ∃ k, 69 = n + 12 * k := ⟨(69 - n) / 12, by omega⟩
    have hexp : (69 - n) / 12 = k := by omega
    rw [hexp, incOfFreq_of_pos (by positivity) hsr]
    refine ⟨_, _, _, ⟨by positivity, ?_⟩, isNearestRoot12_roundHalfEven _ (by positivity), rfl⟩
    rw [hk]
    ring

/-- At any other note the frequency is irrational, so that the search meets no tie. -/
theorem incOfNote_nearest_of_not_octave {note : BitVec 16} {sr : ℕ} (hsr : 0 < sr)
    (hoctave : note.toNat % 12 ≠ 69 % 12) : IsNearestInc note.toNat sr (incOfNote note sr) := by
  have hpos : 0 < 440 * 2 ^ 32 := by norm_num
  simp only [incOfNote, if_neg hsr.ne', if_neg hoctave]
  generalize note.toNat = n at *
  split
  case isTrue hge =>
    obtain ⟨k, rfl⟩ : ∃ k, n = 69 + k := ⟨n - 69, by omega⟩
    rw [Nat.add_sub_cancel_left]
    refine ⟨_, _, _, ⟨by positivity, ?_⟩, isNearestRoot12_nearestRoot12 (by positivity) fun x h => ?_, rfl⟩
    · ring
    · have hk := exponent_mod_twelve (x := x * sr) (Nat.mul_pos two_pos hpos) (by rw [mul_pow, ← h]; ring)
      omega
  case isFalse hlt =>
    obtain ⟨k, hk⟩ : ∃ k, 69 = n + k := ⟨69 - n, by omega⟩
    have hexp : 69 - n = k := by omega
    rw [hexp]
    refine ⟨_, _, _, ⟨by positivity, ?_⟩, isNearestRoot12_nearestRoot12 (by positivity) fun x h => ?_, rfl⟩
    · rw [hk]
      ring
    · have hx : x ≠ 0 := by
        rintro rfl
        simp at h
      have hmod := exponent_mod_twelve (x := 2 * (440 * 2 ^ 32)) (y := x * sr) (k := k)
        (Nat.mul_pos (Nat.pos_of_ne_zero hx) hsr) (by rw [mul_pow, h]; ring)
      omega

theorem incOfNote_nearest (note : BitVec 16) {sr : ℕ} (hsr : 0 < sr) :
    IsNearestInc note.toNat sr (incOfNote note sr) := by
  by_cases hoctave : note.toNat % 12 = 69 % 12
  · exact incOfNote_nearest_of_octave hsr hoctave
  · exact incOfNote_nearest_of_not_octave hsr hoctave

/-- R95's bounds on the increment of a note, said without the quotient. -/
theorem IsNearestRoot12.bounds {n sr a b m : ℕ} (h : IsNearestRoot12 a b m) (hsr : 0 < sr)
    (hab : IsIncPow12 n sr a b) :
    ((2 * m - 1) * sr) ^ 12 * 2 ^ 69 ≤ (880 * 2 ^ 32) ^ 12 * 2 ^ n ∧
      (880 * 2 ^ 32) ^ 12 * 2 ^ n ≤ ((2 * m + 1) * sr) ^ 12 * 2 ^ 69 ∧
      ((880 * 2 ^ 32) ^ 12 * 2 ^ n = ((2 * m - 1) * sr) ^ 12 * 2 ^ 69 ∨
        (880 * 2 ^ 32) ^ 12 * 2 ^ n = ((2 * m + 1) * sr) ^ 12 * 2 ^ 69 → m % 2 = 0) := by
  obtain ⟨hb, hab⟩ := hab
  have hc : 0 < sr ^ 12 * 2 ^ 69 := by positivity
  have htwice : (880 * 2 ^ 32) ^ 12 * 2 ^ n * b = 2 ^ 12 * a * (sr ^ 12 * 2 ^ 69) := by
    rw [mul_assoc (2 ^ 12), ← hab]
    ring
  have hbound (x : ℕ) : (x * sr) ^ 12 * 2 ^ 69 * b = x ^ 12 * b * (sr ^ 12 * 2 ^ 69) := by ring
  have heq {x : ℕ} : (880 * 2 ^ 32) ^ 12 * 2 ^ n = (x * sr) ^ 12 * 2 ^ 69 ↔ 2 ^ 12 * a = x ^ 12 * b := by
    rw [← Nat.mul_left_inj hb.ne', htwice, hbound, Nat.mul_left_inj hc.ne']
  refine ⟨?_, ?_, ?_⟩
  · rw [← Nat.mul_le_mul_right_iff hb, htwice, hbound]
    exact Nat.mul_le_mul_right _ h.low
  · rw [← Nat.mul_le_mul_right_iff hb, htwice, hbound]
    exact Nat.mul_le_mul_right _ h.high
  · rw [heq, heq]
    exact h.tie

/-! ### The increment of a frequency, and the table events (R95, R101) -/

theorem incOfFreq_eq_spec (n : ℕ) {d sr : ℕ} (hd : 0 < d) (hsr : 0 < sr) :
    incOfFreq n d sr = BitVec.ofInt 32 (Spec.roundHalfEven ((n : ℚ) / d * 2 ^ 32 / sr)) := by
  have hquot : (n : ℚ) / d * 2 ^ 32 / sr = ((n * 2 ^ 32 : ℕ) : ℚ) / (d * sr : ℕ) := by
    push_cast
    ring
  rw [incOfFreq_of_pos hd hsr, hquot, ← roundHalfEven_cast _ (Nat.mul_pos hd hsr), BitVec.ofInt_natCast]

theorem toWord_number_eq_spec (q : ℚ) : (SampleValue.number q).toWord = Spec.rne32 q := by
  rw [toWord_number, rne32_eq_spec _ q.den_pos, Rat.num_div_den]

end Sys2Proof.Machine

namespace Sys2Proof.Laws

/-- Settles O58: each case of R97 and R99 keeps the mappings in order. -/
theorem firmwareKeepsOneMappingPerNote : Obligations.FirmwareKeepsOneMappingPerNote := by
  intro p v note vel inc fw fw' cmds hp hnodup hslots h
  have hmap : MapOk p fw.map := ⟨hnodup, hslots⟩
  rcases h with h | h
  · obtain ⟨⟨hnotes, hlt⟩, hroom⟩ := startNote_pushes hp.1.1 hmap h
    exact ⟨hnotes, hlt, le_max_of_le_right hroom⟩
  · obtain ⟨⟨hnotes, hlt⟩, hroom⟩ := noteOff_pushes hmap h
    exact ⟨hnotes, hlt, hroom⟩

/-- Settles O59: a frequency's increment is one rounded quotient, a note's the nearest integer of a twelfth root. -/
theorem firmwareConversionsRoundOnce : Obligations.FirmwareConversionsRoundOnce := by
  refine ⟨fun n d sr hd hsr => incOfFreq_eq_spec n hd hsr, fun note sr hsr => ?_,
    fun q index => congrArg (Instr.wrsample index) (toWord_number_eq_spec q), fun _ _ => rfl, fun _ => rfl,
    fun _ => rfl⟩
  obtain ⟨a, b, m, hab, hm, hinc⟩ := incOfNote_nearest note hsr
  exact ⟨m, hinc, hm.bounds hsr hab⟩

end Sys2Proof.Laws
end

section
/-! PROOFS. Result codes (60_exceptions.md R104 to R110): what recording a code is, a command's write as one function
of its checks and its queue entry, that function as R105's pseudocode on raw words, and when an instruction is
accepted or rejected. -/

open Sys2Proof Sys2Proof.Machine

namespace Sys2Proof.Machine

/-! ### Codes and their recording (R104, R106) -/

theorem codeNum_eq_zero_iff (c : Code) : codeNum c = 0 ↔ c = .ok := by
  cases c <;> simp [codeNum]

theorem errorBit_of_ne_ok {c : Code} (hc : c ≠ .ok) : errorBit c = BitVec.ofNat 11 (2 ^ (codeNum c - 1)) :=
  if_neg (mt (codeNum_eq_zero_iff c).1 hc)

@[simp] theorem resultOf_record (p : Port) (c : Code) (s : State) : Spec.resultOf p (record p c s) = codeByte c := by
  cases p <;> rfl

/-! ### A command's write, as its check and its queue entry (R105) -/

/-- The state with a command queued and CTL_TABLE_SIZE brought up to date. -/
def enqueue (e : QEntry) (s : State) : State :=
  { s with queue := s.queue ++ [e], ctlTableSize := sizeAfter s.ctlTableSize e }

/-- Steps 3 to 6 of R105 for any command: its check, queue space, the push, and ACTIVATE's warning. -/
def pushChecked (check : Option Code) (e : QEntry) (s : State) : State :=
  match check with
  | some c => record .cmdOp c s
  | none =>
    if s.queue.length = s.params.cmdqDepth then record .cmdOp .queueFull s
    else if e.opcode.toNat = 3 ∧ s.ctlTableSize = 0 then record .cmdOp .uninitializedTable (enqueue e s)
    else { enqueue e s with cmdResult := 0 }

/-- The operand check of a command's push; a trigger pushes nothing. -/
def pushCheck (i : Instr) (s : State) : Option Code :=
  match i with
  | .configure n => configureCheck n s
  | .wrsample idx _ => wrsampleCheck idx s
  | .activate slot _ _ inc => activateCheck slot inc s
  | .release slot => slotCheck s slot
  | .silence slot => slotCheck s slot
  | .setEnv a r => setEnvCheck a r
  | .nop | .resetAll | .render _ | .probe _ => none

/-- The entry a command queues: its op word's fields and the argument words, an ignored one as the latch holds it. -/
def pushEntry (i : Instr) (s : State) : QEntry :=
  { opcode := opOpcode (encode i).1
    slot := opSlot (encode i).1
    vel := opVel (encode i).1
    arg0 := if usesA0 i = true then (encode i).2.1 else s.cmdArg0
    arg1 := if usesA1 i = true then (encode i).2.2 else s.cmdArg1 }

theorem pushEntry_of_isEncodingOf {i : Instr} {op : Word} {s : State} (h : IsEncodingOf i op s.cmdArg0 s.cmdArg1) :
    pushEntry i s =
      { opcode := opOpcode op, slot := opSlot op, vel := opVel op, arg0 := s.cmdArg0, arg1 := s.cmdArg1 } := by
  obtain ⟨rfl, h0, h1⟩ := h
  simp only [pushEntry, QEntry.mk.injEq, true_and, ite_eq_right_iff]
  exact ⟨h0, h1⟩

theorem pushChecked_accepted {check : Option Code} {s : State} (e : QEntry) (h : pushAccepted check s) :
    pushChecked check e s =
      if e.opcode.toNat = 3 ∧ s.ctlTableSize = 0 then record .cmdOp .uninitializedTable (enqueue e s)
      else { enqueue e s with cmdResult := 0 } := by
  obtain ⟨rfl, hroom⟩ := h
  exact if_neg hroom

/-- A push that is not accepted records a code, and the entry plays no part. -/
theorem pushCommand_not_accepted {check : Option Code} {s : State} (e : QEntry) (h : ¬ pushAccepted check s) :
    pushCommand check e s = pushChecked check e s := by
  cases check with
  | some c => rfl
  | none =>
    have hfull : s.queue.length = s.params.cmdqDepth := not_not.1 fun hroom => h ⟨rfl, hroom⟩
    exact (if_pos hfull).trans (if_pos hfull).symm

/-- The shared push is the whole write of a command other than CONFIGURE and ACTIVATE. -/
theorem pushCommand_eq_pushChecked (check : Option Code) {e : QEntry} (s : State) (h1 : e.opcode.toNat ≠ 1)
    (h3 : e.opcode.toNat ≠ 3) : pushCommand check e s = pushChecked check e s := by
  by_cases hacc : pushAccepted check s
  · rw [pushCommand_accepted e hacc, pushChecked_accepted e hacc, if_neg (fun h => h3 h.1), enqueue,
      sizeAfter_of_ne h1]
  · exact pushCommand_not_accepted e hacc

/-- CONFIGURE's write also sets CTL_TABLE_SIZE (40_table.md R75). -/
theorem execConfigure_eq (n : Word) (s : State) :
    execConfigure n s = .next (pushChecked (configureCheck n s) (entryFC 0x01 n s) s) := by
  unfold execConfigure
  split
  next hacc => rw [pushCommand_accepted _ hacc, pushChecked_accepted _ hacc]; rfl
  next hacc => rw [pushCommand_not_accepted _ hacc]

/-- ACTIVATE's write also records the warning while CTL_TABLE_SIZE is 0 (41_voice.md R80). -/
theorem execActivate_eq (slot : Byte) (note : BitVec 16) (vel : Byte) (inc : Word) (s : State) :
    execActivate slot note vel inc s =
      .next (pushChecked (activateCheck slot inc s) (entryFA 0x03 slot note vel inc) s) := by
  unfold execActivate
  by_cases hacc : pushAccepted (activateCheck slot inc s) s
  · rw [pushCommand_accepted _ hacc, pushChecked_accepted _ hacc]
    by_cases hsize : s.ctlTableSize = 0
    · rw [if_pos ⟨hacc, hsize⟩, if_pos ⟨rfl, hsize⟩]
      rfl
    · rw [if_neg (fun h => hsize h.2), if_neg (fun h => hsize h.2)]
      rfl
  · rw [if_neg (fun h => hacc h.1), pushCommand_not_accepted _ hacc]

/-- Every command's write is its checked push. -/
theorem exec_command {i : Instr} (hp : i.port = .cmdOp) (s : State) :
    exec i s = .next (pushChecked (pushCheck i s) (pushEntry i s) s) := by
  cases i
  case nop | resetAll =>
    simp [exec, execNop, execResetAll, pushCheck, pushEntry, encode, usesA0, usesA1, entryFN,
      pushCommand_eq_pushChecked]
  case configure => simp [exec, execConfigure_eq, pushCheck, pushEntry, encode, usesA0, usesA1, entryFC]
  case wrsample =>
    simp [exec, execWrsample, pushCheck, pushEntry, encode, usesA0, usesA1, entryFW, pushCommand_eq_pushChecked]
  case activate => simp [exec, execActivate_eq, pushCheck, pushEntry, encode, usesA0, usesA1, entryFA]
  case release | silence =>
    simp [exec, execRelease, execSilence, pushCheck, pushEntry, encode, usesA0, usesA1, entryFS,
      pushCommand_eq_pushChecked]
  case setEnv =>
    simp [exec, execSetEnv, pushCheck, pushEntry, encode, usesA0, usesA1, entryFE, pushCommand_eq_pushChecked]
  case render | probe => cases hp

/-! ### R105's pseudocode on raw words -/

theorem cmdOpWrite_illegalOpcode {op : Word} {s : State}
    (h : decodeCommand op s.cmdArg0 s.cmdArg1 = .error .illegalOpcode) :
    Spec.cmdOpWrite op s = record .cmdOp .illegalOpcode s :=
  if_pos ((decodeCommand_illegalOpcode_iff op _ _).1 h)

/-- The five reserved-field lines of R105 are one check. -/
theorem cmdOpWrite_reservedField {op : Word} {s : State}
    (h : decodeCommand op s.cmdArg0 s.cmdArg1 = .error .reservedField) :
    Spec.cmdOpWrite op s = record .cmdOp .reservedField s := by
  obtain ⟨hle, hres⟩ := (decodeCommand_reservedField_iff op _ _).1 h
  simp only [Spec.cmdOpWrite, ← ite_or]
  exact (if_neg hle.not_gt).trans (if_pos hres)

/-- Steps 3 and 4 of R105 as its lines order them, on the fields of the entry to be queued. -/
def operandCheck (e : QEntry) (s : State) : Option Code :=
  if e.opcode.toNat ∈ [3, 4, 5] ∧ s.params.numVoices ≤ e.slot.toNat then some .invalidSlot
  else if e.opcode.toNat = 1 ∧ (e.arg0 = 0 ∨ s.params.tableMax < e.arg0.toNat) then some .invalidSize
  else if e.opcode.toNat = 2 ∧ s.ctlTableSize.toNat ≤ e.arg0.toNat then some .indexOutOfRange
  else if e.opcode.toNat = 3 ∧ e.arg1 = 0 then some .invalidIncrement
  else if e.opcode.toNat = 7 ∧ (e.arg0 = 0 ∨ 2 ^ 24 < e.arg0.toNat ∨ e.arg1 = 0 ∨ 2 ^ 24 < e.arg1.toNat) then
    some .invalidEnvStep
  else none

/-- The range of an envelope step, on the argument word that carries it. -/
theorem stepLegal_iff_zeroExtend (a : BitVec 25) :
    stepLegal a = true ↔ ¬ a.zeroExtend 32 = 0 ∧ (a.zeroExtend 32).toNat ≤ 2 ^ 24 := by
  have hval : (a.zeroExtend 32).toNat = a.toNat := BitVec.toNat_setWidth_of_le (by decide)
  rw [stepLegal_iff, StepOk, ← BitVec.toNat_inj, hval, Nat.one_le_iff_ne_zero]
  rfl

/-- A command's own check is R105's on the entry it queues. -/
theorem operandCheck_pushEntry {i : Instr} (hp : i.port = .cmdOp) (s : State) :
    operandCheck (pushEntry i s) s = pushCheck i s := by
  cases i
  case nop | resetAll => simp [operandCheck, pushEntry, pushCheck, encode]
  case configure n => simp [operandCheck, pushEntry, pushCheck, encode, usesA0, configureCheck]
  case wrsample => simp [operandCheck, pushEntry, pushCheck, encode, usesA0, wrsampleCheck]
  case activate slot _ _ _ =>
    by_cases hslot : s.params.numVoices ≤ slot.toNat <;>
      simp [operandCheck, pushEntry, pushCheck, encode, usesA1, activateCheck, slotCheck, hslot]
  case release | silence => simp [operandCheck, pushEntry, pushCheck, encode, slotCheck]
  case setEnv a r =>
    have hlegal : (stepLegal a && stepLegal r) = true ↔
        ¬ (a.zeroExtend 32 = 0 ∨ 2 ^ 24 < (a.zeroExtend 32).toNat ∨ r.zeroExtend 32 = 0 ∨
          2 ^ 24 < (r.zeroExtend 32).toNat) := by
      simp only [Bool.and_eq_true, stepLegal_iff_zeroExtend, not_or, not_lt, and_assoc]
    rw [pushCheck, setEnvCheck, if_congr hlegal rfl rfl, ite_not]
    simp [operandCheck, pushEntry, encode, usesA0, usesA1]
  case render | probe => cases hp

theorem pushChecked_ite (p : Prop) [Decidable p] (c : Code) (check : Option Code) (e : QEntry) (s : State) :
    pushChecked (if p then some c else check) e s = if p then record .cmdOp c s else pushChecked check e s := by
  split <;> rfl

/-- CONFIGURE alone moves CTL_TABLE_SIZE. -/
theorem enqueue_eq (e : QEntry) (s : State) :
    enqueue e s =
      if e.opcode.toNat = 1 then { s with queue := s.queue ++ [e], ctlTableSize := e.arg0 }
      else { s with queue := s.queue ++ [e] } := by
  unfold enqueue sizeAfter
  split <;> rfl

/-- What R105 does with a decoded command is a function of the queue entry alone. -/
theorem cmdOpWrite_decoded {i : Instr} {op : Word} {s : State}
    (h : decodeCommand op s.cmdArg0 s.cmdArg1 = .ok i) :
    Spec.cmdOpWrite op s = pushChecked (pushCheck i s) (pushEntry i s) s := by
  have hlegal : ¬ 7 < (opOpcode op).toNat := fun hill =>
    nomatch h.symm.trans ((decodeCommand_illegalOpcode_iff op _ _).2 hill)
  rw [← operandCheck_pushEntry (port_of_decode (port := .cmdOp) h),
    pushEntry_of_isEncodingOf (isEncodingOf_of_decodeCommand h)]
  simp only [Spec.cmdOpWrite, ← ite_or]
  refine (if_neg hlegal).trans ((if_neg fun hres => ?_).trans ?_)
  · exact nomatch h.symm.trans ((decodeCommand_reservedField_iff op _ _).2 ⟨not_lt.1 hlegal, hres⟩)
  · simp only [operandCheck, pushChecked_ite]
    simp only [pushChecked, enqueue_eq]
    rfl

/-- The write that reaches CMD_OP is R105's pseudocode. -/
theorem issue_cmdOp (op : Word) (s : State) : issue .cmdOp op s = .next (Spec.cmdOpWrite op s) := by
  unfold issue
  cases h : decode .cmdOp op s.cmdArg0 s.cmdArg1 with
  | ok i => rw [cmdOpWrite_decoded h]; exact exec_command (port_of_decode h) s
  | error e =>
    cases e with
    | illegalOpcode => rw [cmdOpWrite_illegalOpcode h]; rfl
    | reservedField => rw [cmdOpWrite_reservedField h]; rfl

/-! ### Acceptance and rejection (R105, R110) -/

/-- A checked push that is not accepted only records a code. -/
theorem pushChecked_recorded {check : Option Code} {s : State} (e : QEntry) (h : ¬ pushAccepted check s) :
    ∃ c, pushChecked check e s = record .cmdOp c s := by
  rw [← pushCommand_not_accepted e h]
  rcases pushCommand_cases check e s with ⟨c, -, hc⟩ | ⟨-, -, hfull⟩ | ⟨hacc, -⟩
  · exact ⟨c, hc⟩
  · exact ⟨.queueFull, hfull⟩
  · exact absurd hacc h

/-- An accepted push answers OK, or the warning for an ACTIVATE while CTL_TABLE_SIZE is 0. -/
theorem pushChecked_answer {check : Option Code} {s : State} (e : QEntry) (h : pushAccepted check s) :
    (pushChecked check e s).cmdResult = 0 ∨
      ((pushChecked check e s).cmdResult = 3 ∧ e.opcode.toNat = 3 ∧ s.ctlTableSize = 0) := by
  rw [pushChecked_accepted e h]
  split
  next hwarn => exact .inr ⟨rfl, hwarn⟩
  next => exact .inl rfl

theorem exec_command_recorded_or_answered {i : Instr} {s t : State} (hp : i.port = .cmdOp)
    (h : exec i s = .next t) : (∃ c, t = record .cmdOp c s) ∨ t.cmdResult = 0 ∨ t.cmdResult = 3 := by
  cases (exec_command hp s).symm.trans h
  by_cases hacc : pushAccepted (pushCheck i s) s
  · exact .inr ((pushChecked_answer _ hacc).imp_right And.left)
  · exact .inl (pushChecked_recorded _ hacc)

/-- Every instruction only records a code, or answers OK or the warning (R110). -/
theorem exec_recorded_or_answered {i : Instr} {s t : State} (h : exec i s = .next t) :
    (∃ c, t = record i.port c s) ∨ Spec.resultOf i.port t = 0 ∨ Spec.resultOf i.port t = 3 := by
  cases i
  case render n =>
    rcases execRender_cases n s with ⟨c, -, hrec⟩ | ⟨-, -, hstart⟩
    · cases hrec.symm.trans h
      exact .inl ⟨c, rfl⟩
    · cases hstart.symm.trans h
      exact .inr (.inl (startBlock_renderResult _ _))
  case probe p =>
    cases (exec_probe p s).symm.trans h
    unfold Spec.probePhaseWrite
    split
    · exact .inl ⟨.engineBusy, rfl⟩
    · exact .inr (.inl rfl)
  all_goals exact exec_command_recorded_or_answered rfl h

/-- No operand check of a command with legal operands fails. -/
theorem pushCheck_of_wellFormed {i : Instr} {s : State} (hwf : i.WellFormed s.params)
    (hidx : ∀ idx w, i = .wrsample idx w → idx.toNat < s.ctlTableSize.toNat) : pushCheck i s = none := by
  cases i with
  | nop => rfl
  | configure n => exact configureCheck_eq_none.2 (of_decide_eq_true hwf)
  | wrsample idx w => exact wrsampleCheck_eq_none.2 (hidx idx w rfl)
  | activate slot note vel inc => exact activateCheck_eq_none.2 (of_decide_eq_true hwf)
  | release slot => exact slotCheck_eq_none.2 (of_decide_eq_true hwf)
  | silence slot => exact slotCheck_eq_none.2 (of_decide_eq_true hwf)
  | resetAll => rfl
  | setEnv a r =>
    obtain ⟨⟨ha0, ha⟩, hr0, hr⟩ := of_decide_eq_true hwf
    exact setEnvCheck_eq_none.2 ⟨stepOk_of_ne_zero ha0 ha, stepOk_of_ne_zero hr0 hr⟩
  | render n => rfl
  | probe p => rfl

/-- ACTIVATE is the command of opcode 0x03 (30_encoding.md R67). -/
theorem eq_activate_of_opcode {i : Instr} {s : State} (hp : i.port = .cmdOp) (h : (pushEntry i s).opcode.toNat = 3) :
    ∃ slot note vel inc, i = .activate slot note vel inc := by
  cases i
  case activate slot note vel inc => exact ⟨slot, note, vel, inc, rfl⟩
  case render | probe => cases hp
  all_goals simp [pushEntry, encode] at h

/-- A command with legal operands and room in the queue is accepted (R105). -/
theorem exec_command_accepted {i : Instr} {s : State} (hp : i.port = .cmdOp) (hwf : i.WellFormed s.params)
    (hroom : s.queue.length ≠ s.params.cmdqDepth)
    (hidx : ∀ idx w, i = .wrsample idx w → idx.toNat < s.ctlTableSize.toNat) :
    ∃ t, exec i s = .next t ∧
      (t.cmdResult = 0 ∨
        (t.cmdResult = 3 ∧ s.ctlTableSize = 0 ∧ ∃ slot note vel inc, i = .activate slot note vel inc)) := by
  refine ⟨_, exec_command hp s, ?_⟩
  rcases pushChecked_answer (pushEntry i s) ⟨pushCheck_of_wellFormed hwf hidx, hroom⟩ with hok | ⟨hwarn, hop, hsize⟩
  · exact .inl hok
  · exact .inr ⟨hwarn, hsize, eq_activate_of_opcode hp hop⟩

end Sys2Proof.Machine

namespace Sys2Proof.Laws

/-- Settles O6: the write reaches CMD_OP and runs R105's pseudocode. -/
theorem cmdOpWriteFollowsPushRules : Obligations.CmdOpWriteFollowsPushRules := by
  intro s op rest hin
  rw [step_portWrite (port := .cmdOp) hin]
  exact issue_cmdOp op _

/-- Settles O10: what is not answered with OK or the warning is a recording, whose result is the recorded code. -/
theorem rejectedInstructionOnlyRecords : Obligations.RejectedInstructionOnlyRecords := by
  intro i s t h hok hwarn
  rcases exec_recorded_or_answered h with ⟨c, rfl⟩ | h0 | h3
  · rw [resultOf_record] at hok ⊢
    exact ⟨c, fun hc => hok (hc ▸ rfl), rfl, rfl⟩
  · exact absurd h0 hok
  · exact absurd h3 hwarn

/-- Settles O11: a command's checks pass, a block can start, and a probe looks up the table. -/
theorem wellFormedInstructionIsAccepted : Obligations.WellFormedInstructionIsAccepted := by
  intro i s hwf hbusy hroom hidx
  cases i
  case render n =>
    exact ⟨_, exec_render_accepted hbusy (of_decide_eq_true hwf), .inl (startBlock_renderResult _ _)⟩
  case probe p =>
    refine ⟨_, exec_probe p s, .inl ?_⟩
    rw [Spec.probePhaseWrite, if_neg (by simp [hbusy])]
    rfl
  all_goals exact exec_command_accepted rfl hwf hroom hidx

/-- Settles O9: the table of codes, and the code's bit of ERROR. -/
theorem recordSetsCodeErrorBitAndIrq : Obligations.RecordSetsCodeErrorBitAndIrq := by
  refine ⟨⟨rfl, rfl, fun c hc => ?_⟩, by decide, fun s c hc => ?_⟩
  · cases c <;> simp_all [Spec.codes]
  · rw [← errorBit_of_ne_ok hc]
    exact ⟨rfl, rfl, rfl, fun _ => rfl⟩

/-- Settles O44: each source counts when it is pending and enabled. -/
theorem irqIsEnabledPendingSource : Obligations.IrqIsEnabledPendingSource := by
  intro s
  refine ⟨by simp only [State.irq, Bool.or_eq_true, Bool.and_eq_true], fun h => ?_⟩
  simp [State.irq, h]

end Sys2Proof.Laws
end

section
/-! PROOFS. Reset (70_reset_and_hazards.md R120): the step that takes the reset input, and the state and interrupt
output it leaves (10_state.md R50). -/

open Sys2Proof Sys2Proof.Machine

namespace Sys2Proof.Machine

theorem step_reset {s : State} {rest : List Input} (hin : s.inputs = .reset :: rest) :
    step s = .next (resetStep { s with inputs := rest }) := by
  simp only [step, stepState, hin, stepInput]

/-- Reset disables both interrupt sources, so irq falls whatever was pending. -/
@[simp] theorem resetStep_irq (s : State) : (resetStep s).irq = false :=
  (Laws.irqIsEnabledPendingSource (resetStep s)).2 rfl

end Sys2Proof.Machine

namespace Sys2Proof.Laws

/-- Settles O49: the step is `resetStep`, whose fields are the reset values; the open ones are read off it. -/
theorem resetStepRestoresEveryElement : Obligations.ResetStepRestoresEveryElement := fun s _ hin =>
  ⟨(State.resetWith s.params).mem, s.resp, s.epoch + 1, _, step_reset hin, resetStep_irq _, rfl⟩

end Sys2Proof.Laws
end
